-- ==== Sys2Proof/Word.lean ====
section
/-! DEFINITION. The bit-vector widths of MBCORE (00_scope.md R8) and byte sequences (R17). -/

namespace Sys2Proof

/-- A byte, and a device address (R8). -/
abbrev Byte := BitVec 8

/-- A register address, a CSR index, a count field, a CRC (R8). -/
abbrev Half := BitVec 16

/-- A register value and the contents of a CSR (R8, R23). -/
abbrev Word := BitVec 32

/-- A frame, or any byte sequence: index 0 is the first byte on the link (R17). -/
abbrev Bytes := List Byte

end Sys2Proof
end

