-- ==== Sys2Proof/Config.lean ====
section
/-! DEFINITION. What one build of MBCORE fixes (the open parameters of 00_scope.md section 4), and the
free values: the transport's answers that no scripted answer supplies. -/

namespace Sys2Proof

/-- One argument triple of P_ACK_MALFORMED: the wire command byte, the expected device address and the
response (R14). -/
structure AckKey where
  command : Byte
  addr : Byte
  response : Bytes
  deriving DecidableEq, Repr

/-- The open parameters of R9 to R14, as plain data. P_ACK_MALFORMED has finitely many arguments (a
response has the fixed length of its command), so a finite list of the triples on which it is true
stands for every such function (log entry 5). -/
structure Params where
  /-- P_MODE_MASK, the field CFG_ID[2:0] (R9, R37). -/
  modeMask : BitVec 3
  /-- P_OFF_V, the field CFG_ID[12:8] (R10, R37). -/
  offV : BitVec 5
  /-- P_OFF_I, the field CFG_ID[20:16] (R10, R37). -/
  offI : BitVec 5
  /-- P_STRICT_RESET (R12). -/
  strictReset : Bool
  /-- P_CRC_SWAP_RESET (R11). -/
  crcSwapReset : Bool
  /-- P_TURNAROUND in milliseconds (R13); no rule's result depends on it (R160). -/
  turnaround : Nat
  /-- The triples on which P_ACK_MALFORMED is true (R14). -/
  malformedAcks : List AckKey
  deriving DecidableEq, Repr

/-- The ranges the spec gives the parameters (R9, R10). -/
def Params.wf (p : Params) : Bool :=
  (p.modeMask == 3#3 || p.modeMask == 7#3) &&
  decide (4 ≤ p.offV.toNat) && decide (p.offV.toNat ≤ 18) &&
  decide (4 ≤ p.offI.toNat) && decide (p.offI.toNat ≤ 18)

/-- The canonical values of R9 to R12 and R14. DESIGN CHOICE (log entry 6): P_TURNAROUND has no canonical
value; the figure here is the upper end of "~50-100ms". -/
def Params.canonical : Params :=
  { modeMask := 3#3, offV := 5#5, offI := 8#5, strictReset := true, crcSwapReset := false,
    turnaround := 100, malformedAcks := [] }

/-- Why a T_READ failed (R19, R64). -/
inductive ReadFail where
  | timeout
  | short
  | io
  deriving DecidableEq, Repr

/-- Free value: the answer of the k-th free T_OPEN or T_WRITE (R19, R61, R62, I20; log entry 3). -/
opaque Config.freeOk : Nat → Bool

/-- Free value: whether and why the k-th free T_READ fails (R64, I20; log entry 3). -/
opaque Config.freeFail : Nat → Option ReadFail

/-- Free value: byte i of the response to the k-th free T_READ (R64, I20; log entry 3). -/
opaque Config.freeByte : Nat → Nat → Byte

end Sys2Proof
end

