-- ==== Sys2Proof/Syntax.lean ====
section
/-! DEFINITION. The two encoded interfaces' data (host request record, wire frame) and the operations of
spec/opcode_table.json: 26 host operations and 3 wire commands. -/

namespace Sys2Proof

/-- The wire command enumeration (30_encoding.md R77). -/
inductive WireCmd where
  | readRegisters
  | writeSingle
  | writeMultiple
  deriving DecidableEq, Repr

/-- The named registers of the remote device (20_memory.md R42). -/
inductive RemoteReg where
  | loadSwitch
  | loadMode
  | current
  | resistance
  | watts
  deriving DecidableEq, Repr

/-- The load modes (00_scope.md R20, 10_state.md R32). -/
inductive LoadMode where
  | cv
  | cc
  | cr
  | cw
  deriving DecidableEq, Repr

/-- The host request record (30_encoding.md R81). A field that an opcode does not read is ignored. -/
structure Request where
  opc : Byte
  a16 : Half := 0
  v32 : Word := 0
  vals : List Word := []
  data : Bytes := []
  deriving DecidableEq, Repr

/-- A well-placed operation: a request record of the host, or the bytes of a wire frame. -/
inductive Encoding where
  | host (r : Request)
  | wire (f : Bytes)
  deriving DecidableEq, Repr

/-- One constructor per row of the opcode table, with the fields the row's operation reads
(30_encoding.md R82; R71 to R73 for the wire commands, whose `crc` is the frame's checksum field). -/
inductive Instr where
  /-- OPEN: port name bytes and baud rate (R131). -/
  | openPort (port : Bytes) (baud : Word)
  /-- CLOSE (R132). -/
  | closePort
  /-- FLUSH (R133). -/
  | flushPort
  /-- CSR_READ: index (R134). -/
  | csrRead (idx : Half)
  /-- CSR_WRITE: index and value (R135). -/
  | csrWrite (idx : Half) (v : Word)
  /-- SET_CURRENT: milliamps (R126). -/
  | setCurrent (v : Word)
  /-- SET_POWER: deciwatts (R127). -/
  | setPower (v : Word)
  /-- SET_RESISTANCE: deci-ohms (R128). -/
  | setResistance (v : Word)
  /-- SET_MODE: mode code (R129). -/
  | setMode (m : Word)
  /-- SET_LOAD_SWITCH: 0 off, 1 on (R130). -/
  | setLoadSwitch (v : Word)
  /-- WRITE_REGISTER: register address and value (R124). -/
  | writeRegister (reg : Half) (v : Word)
  /-- WRITE_REGISTERS: start address, count v32[15:0], values (R125). -/
  | writeRegisters (start : Half) (count : Half) (vals : List Word)
  /-- GET_STATUS (R119). -/
  | getStatus
  /-- GET_CURRENT (R120). -/
  | getCurrent
  /-- GET_VOLTAGE (R121). -/
  | getVoltage
  /-- GET_MODE (R122). -/
  | getMode
  /-- GET_SWITCH (R123). -/
  | getSwitch
  /-- CRC_COMPUTE: bytes and length (R96). -/
  | crcCompute (d : Bytes) (n : Half)
  /-- CRC_INSERT: message, length, crc v32[15:0] (R97). -/
  | crcInsert (m : Bytes) (n : Half) (c : Half)
  /-- CRC_EXTRACT: message and length (R98). -/
  | crcExtract (m : Bytes) (n : Half)
  /-- CRC_SET: message and length (R99). -/
  | crcSet (m : Bytes) (n : Half)
  /-- CRC_VERIFY: message, length, strict v32[0] (R100). -/
  | crcVerify (m : Bytes) (n : Half) (strict : Bool)
  /-- BUILD_READ_STATUS (R107). -/
  | buildReadStatus
  /-- BUILD_WRITE_SINGLE: register address and value (R108). -/
  | buildWriteSingle (reg : Half) (v : Word)
  /-- BUILD_WRITE_MULTIPLE: start address, count v32[15:0], values (R109). -/
  | buildWriteMultiple (start : Half) (count : Half) (vals : List Word)
  /-- DECODE_STATUS_BANK: the response bytes (R110). -/
  | decodeStatusBank (r : Bytes)
  /-- WIRE_READ_STATUS, format F_RS (R71, R101). -/
  | wireReadStatus (addr : Byte) (crc : Half)
  /-- WIRE_WRITE_SINGLE, format F_WS (R72, R102). -/
  | wireWriteSingle (addr : Byte) (reg : Half) (v : Word) (crc : Half)
  /-- WIRE_WRITE_MULTIPLE, format F_WM (R73, R103); the count is the number of values. -/
  | wireWriteMultiple (addr : Byte) (start : Half) (vals : List Word) (crc : Half)
  deriving DecidableEq, Repr

end Sys2Proof
end

