-- ==== Sys2Proof/Machine/Operands.lean ====
section
/-! DEFINITION. Operand assembly: byte order, packing and unpacking (00_scope.md R16, R17; 20_memory.md R45 to
R47; 30_encoding.md R79, R80), and the constants of the frames (R15, R42, R77, R78). -/

namespace Sys2Proof.Machine

/-- MAX_COUNT, the largest write_multiple count (R15, R89). -/
def maxCount : Nat := 63

/-- MAX_FRAME, the longest frame the block builds and the size of TXBUF (R15, R38). -/
def maxFrame : Nat := 261

/-- The size of RXBUF, and the length of a status-bank response (R38, R74). -/
def statusLen : Nat := 23

/-- v[15:8] of a 16-bit value. -/
def hiByte (v : Half) : Byte := v.extractLsb' 8 8

/-- v[7:0] of a 16-bit value. -/
def loByte (v : Half) : Byte := v.extractLsb' 0 8

/-- swap16 (R16): the two bytes of a 16-bit value exchanged. -/
def swap16 (v : Half) : Half := loByte v ++ hiByte v

/-- be16 (R17). -/
def be16 (v : Half) : Bytes := [hiByte v, loByte v]

/-- be24 (R17). -/
def be24 (v : BitVec 24) : Bytes := [v.extractLsb' 16 8, v.extractLsb' 8 8, v.extractLsb' 0 8]

/-- be32 (R17). -/
def be32 (v : Word) : Bytes :=
  [v.extractLsb' 24 8, v.extractLsb' 16 8, v.extractLsb' 8 8, v.extractLsb' 0 8]

/-- The payload of a write_multiple frame: every value as be32, in order (R103). -/
def be32s : List Word → Bytes
  | [] => []
  | v :: vs => be32 v ++ be32s vs

/-- f[i] (R17). Every use has i below the length of f; the default is never part of a result. -/
def byteAt (f : Bytes) (i : Nat) : Byte := f.getD i 0#8

/-- unbe24 (R17): the 24-bit big-endian value at index o. -/
def unbe24 (f : Bytes) (o : Nat) : BitVec 24 := byteAt f o ++ byteAt f (o + 1) ++ byteAt f (o + 2)

/-- Reads n big-endian 32-bit values off the front of a byte sequence, with what is left. -/
def takeWords : Nat → Bytes → Option (List Word × Bytes)
  | 0, bs => some ([], bs)
  | n + 1, b3 :: b2 :: b1 :: b0 :: bs =>
    match takeWords n bs with
    | some (vs, rest) => some ((b3 ++ b2 ++ b1 ++ b0 : Word) :: vs, rest)
    | none => none
  | _ + 1, _ => none

/-- The command byte of a request (R77). -/
def cmdByte : WireCmd → Byte
  | .readRegisters => 0x03#8
  | .writeSingle => 0x06#8
  | .writeMultiple => 0x16#8

/-- RESP_LEN: the fixed length of the response to a command (R15, R78). -/
def respLen : WireCmd → Nat
  | .readRegisters => 23
  | .writeSingle => 9
  | .writeMultiple => 8

/-- The remote register table (R42). -/
def regAddr : RemoteReg → Half
  | .loadSwitch => 0x010E#16
  | .loadMode => 0x0110#16
  | .current => 0x0116#16
  | .resistance => 0x011A#16
  | .watts => 0x011E#16

/-- The pseudo-address of the status bank (R42). -/
def statusBankAddr : Half := 0x0300#16

/-- The name of a decoded mode; 4 to 7 name no mode (R32, R106). -/
def loadModeOf (m : BitVec 3) : Option LoadMode :=
  if m = 0#3 then some .cv
  else if m = 1#3 then some .cc
  else if m = 2#3 then some .cr
  else if m = 3#3 then some .cw
  else none

/-- P_ACK_MALFORMED(cmd, addr, response) (R14; log entry 5). -/
def ackMalformed (p : Params) (cmd : WireCmd) (addr : Byte) (r : Bytes) : Bool :=
  p.malformedAcks.any fun k => k.command == cmdByte cmd && k.addr == addr && k.response == r

end Sys2Proof.Machine
end

