-- ==== Sys2Proof/Machine/Crc.lean ====
section
/-! DEFINITION. The checksum unit's functions (40_checksum.md R92 to R100). -/

namespace Sys2Proof.Machine

/-- One bit of the update loop (R93, D6; log entry 12): shift right, and XOR 0xA001 when bit 0 was 1. -/
def crcBit (c : Half) : Half := if c.getLsbD 0 then (c >>> 1) ^^^ 0xA001#16 else c >>> 1

/-- One byte of the update loop (R93): XOR into the low byte, then eight bits. -/
def crcByte (c : Half) (b : Byte) : Half :=
  crcBit (crcBit (crcBit (crcBit (crcBit (crcBit (crcBit (crcBit (c ^^^ b.setWidth 16))))))))

/-- crc_raw(b, n) (R93): the CRC of the first n bytes of b, from 0xFFFF. -/
def crcRaw (b : Bytes) (n : Nat) : Half := (b.take n).foldl crcByte 0xFFFF#16

/-- crc(b, n, swap), the value the unit uses (R94). -/
def crcOf (b : Bytes) (n : Nat) (swap : Bool) : Half :=
  if swap then swap16 (crcRaw b n) else crcRaw b n

/-- insert(message, n, crc) (R97, R46): high byte at n-2, low byte at n-1. -/
def insertCrc (m : Bytes) (n : Nat) (c : Half) : Bytes := (m.set (n - 2) (hiByte c)).set (n - 1) (loByte c)

/-- extract(message, n) (R98). -/
def extractCrc (m : Bytes) (n : Nat) : Half := byteAt m (n - 2) ++ byteAt m (n - 1)

/-- set(message, n): seal a frame (R99). -/
def sealCrc (m : Bytes) (n : Nat) (swap : Bool) : Bytes := insertCrc m n (crcOf m (n - 2) swap)

/-- The comparison of verify(message, n) (R100, R116). -/
def crcMatches (m : Bytes) (n : Nat) (swap : Bool) : Bool := crcOf m (n - 2) swap == extractCrc m n

end Sys2Proof.Machine
end

