-- ==== Sys2Proof/Machine/Frames.lean ====
section
/-! DEFINITION. The frame codec's pure functions (41_frame_codec.md R101 to R106). A layout ends in two
placeholder bytes 0x00; a built frame is the layout sealed by `sealCrc` (R104). -/

namespace Sys2Proof.Machine

/-- The F_RS layout (R71, R101). -/
def layoutReadStatus (a : Byte) : Bytes :=
  [a, cmdByte .readRegisters] ++ be16 statusBankAddr ++ be16 0#16 ++ [0#8, 0#8]

/-- The F_WS layout (R72, R102). -/
def layoutWriteSingle (a : Byte) (reg : Half) (v : Word) : Bytes :=
  [a, cmdByte .writeSingle] ++ be16 reg ++ be16 1#16 ++ [4#8] ++ be32 v ++ [0#8, 0#8]

/-- The F_WM layout (R73, R103). The callers guard 1 <= N <= 63 and N = number of values. -/
def layoutWriteMultiple (a : Byte) (start : Half) (count : Half) (vals : List Word) : Bytes :=
  [a, cmdByte .writeMultiple] ++ be16 start ++ be16 count ++ [4#8 * loByte count] ++ be32s vals ++ [0#8, 0#8]

/-- Sealing a whole layout (R99, R104). -/
def sealFrame (f : Bytes) (swap : Bool) : Bytes := sealCrc f f.length swap

/-- build_read_status(a, swap) (R101). -/
def readStatusFrame (a : Byte) (swap : Bool) : Bytes := sealFrame (layoutReadStatus a) swap

/-- build_write_single(a, reg, v, swap) (R102). -/
def writeSingleFrame (a : Byte) (reg : Half) (v : Word) (swap : Bool) : Bytes :=
  sealFrame (layoutWriteSingle a reg v) swap

/-- build_write_multiple(a, start, N, vals, swap) (R103). -/
def writeMultipleFrame (a : Byte) (start count : Half) (vals : List Word) (swap : Bool) : Bytes :=
  sealFrame (layoutWriteMultiple a start count vals) swap

/-- The guard of write_multiple (R103, R109, R125): 1 <= N <= 63 and len(vals) = N. -/
def countOk (count : Half) (vals : List Word) : Bool :=
  decide (1 ≤ count.toNat) && decide (count.toNat ≤ maxCount) && vals.length == count.toNat

/-- The record decode_status_bank returns (R105). -/
structure StatusFields where
  switch : BitVec 1
  mode : BitVec 3
  voltage : BitVec 24
  current : BitVec 24
  deriving DecidableEq, Repr

/-- decode_status_bank(r) under the build's parameters (R105, R106, R80). -/
def decodeStatus (p : Params) (r : Bytes) : StatusFields :=
  { switch := (byteAt r 3).extractLsb' 0 1
    mode := (byteAt r 3).extractLsb' 1 3 &&& p.modeMask
    voltage := unbe24 r p.offV.toNat
    current := unbe24 r p.offI.toNat }

end Sys2Proof.Machine
end

