-- ==== Sys2Proof/WellFormed.lean ====
section
/-! DEFINITION. Which terms of `Instr` are well-formed. The request record's widths are fixed by its types
(93_implementation_defined.md I21), so every host operation is; a wire command is a frame that the formats of
30_encoding.md R71 to R73 admit. -/

namespace Sys2Proof

open Sys2Proof.Machine

/-- A frame carries a non-zero device address (10_state.md R28). -/
def addrValid (a : Byte) : Bool := a != 0#8

/-- A write_multiple frame carries 1 to 63 values (30_encoding.md R73, R89). -/
def valuesValid (vals : List Word) : Bool := decide (1 ≤ vals.length) && decide (vals.length ≤ maxCount)

/-- The checksum field holds the CRC of the bytes before it, swapped or not (R70, R94). -/
def crcValid (layout : Bytes) (c : Half) : Bool :=
  c == crcOf layout (layout.length - 2) false || c == crcOf layout (layout.length - 2) true

/-- Well-formedness, by constructor. -/
def Instr.wf : Instr → Bool
  | .wireReadStatus a c => addrValid a && crcValid (layoutReadStatus a) c
  | .wireWriteSingle a reg v c => addrValid a && crcValid (layoutWriteSingle a reg v) c
  | .wireWriteMultiple a start vals c =>
    addrValid a && valuesValid vals &&
      crcValid (layoutWriteMultiple a start (BitVec.ofNat 16 vals.length) vals) c
  | .openPort _ _ | .closePort | .flushPort | .csrRead _ | .csrWrite _ _ | .setCurrent _ | .setPower _
  | .setResistance _ | .setMode _ | .setLoadSwitch _ | .writeRegister _ _ | .writeRegisters _ _ _ | .getStatus
  | .getCurrent | .getVoltage | .getMode | .getSwitch | .crcCompute _ _ | .crcInsert _ _ _ | .crcExtract _ _
  | .crcSet _ _ | .crcVerify _ _ _ | .buildReadStatus | .buildWriteSingle _ _ | .buildWriteMultiple _ _ _
  | .decodeStatusBank _ => true

end Sys2Proof
end

