-- ==== Sys2Proof/Decode.lean ====
section
/-! DEFINITION. Decoding of host request records (30_encoding.md R81, R82, R85) and of wire frames (R70 to R73,
R77, R78, R89), total, each rejection by name; then the encoder, from the same tables. -/

namespace Sys2Proof

open Sys2Proof.Machine

/-- Why an encoding is rejected. A host request is rejected only for its opcode (R85); the others are of frames. -/
inductive DecodeError where
  /-- The opcode is not in R82: the request completes with BAD_OPCODE (R85). -/
  | reservedOpcode (opc : Byte)
  /-- Fewer bytes than the common header of six (R70). -/
  | shortFrame
  /-- Byte 1 is none of 0x03, 0x06, 0x16 (R77). -/
  | unknownCommand (c : Byte)
  /-- A read_registers frame whose register is not 0x0300 (R71). -/
  | badRegister (reg : Half)
  /-- A count field the format does not have (R71, R72, R73). -/
  | badCount (n : Half)
  /-- A byte-count field that is not four times the count (R72, R73). -/
  | badByteCount (b : Byte)
  /-- A length that is not the command's (R78). -/
  | badLength
  deriving DecidableEq, Repr

/-- The operation of a request record (R82); fields the opcode does not read are dropped (R81). -/
def decodeRequest (r : Request) : Except DecodeError Instr :=
  if r.opc = 0x01#8 then .ok (.openPort r.data r.v32)
  else if r.opc = 0x02#8 then .ok .closePort
  else if r.opc = 0x03#8 then .ok .flushPort
  else if r.opc = 0x04#8 then .ok (.csrRead r.a16)
  else if r.opc = 0x05#8 then .ok (.csrWrite r.a16 r.v32)
  else if r.opc = 0x10#8 then .ok (.setCurrent r.v32)
  else if r.opc = 0x11#8 then .ok (.setPower r.v32)
  else if r.opc = 0x12#8 then .ok (.setResistance r.v32)
  else if r.opc = 0x13#8 then .ok (.setMode r.v32)
  else if r.opc = 0x14#8 then .ok (.setLoadSwitch r.v32)
  else if r.opc = 0x15#8 then .ok (.writeRegister r.a16 r.v32)
  else if r.opc = 0x16#8 then .ok (.writeRegisters r.a16 (r.v32.extractLsb' 0 16) r.vals)
  else if r.opc = 0x20#8 then .ok .getStatus
  else if r.opc = 0x21#8 then .ok .getCurrent
  else if r.opc = 0x22#8 then .ok .getVoltage
  else if r.opc = 0x23#8 then .ok .getMode
  else if r.opc = 0x24#8 then .ok .getSwitch
  else if r.opc = 0x30#8 then .ok (.crcCompute r.data r.a16)
  else if r.opc = 0x31#8 then .ok (.crcInsert r.data r.a16 (r.v32.extractLsb' 0 16))
  else if r.opc = 0x32#8 then .ok (.crcExtract r.data r.a16)
  else if r.opc = 0x33#8 then .ok (.crcSet r.data r.a16)
  else if r.opc = 0x34#8 then .ok (.crcVerify r.data r.a16 (r.v32.getLsbD 0))
  else if r.opc = 0x38#8 then .ok .buildReadStatus
  else if r.opc = 0x39#8 then .ok (.buildWriteSingle r.a16 r.v32)
  else if r.opc = 0x3A#8 then .ok (.buildWriteMultiple r.a16 (r.v32.extractLsb' 0 16) r.vals)
  else if r.opc = 0x3B#8 then .ok (.decodeStatusBank r.data)
  else .error (.reservedOpcode r.opc)

/-- F_RS after the header (R71): register 0x0300, count 0, no payload, the checksum. -/
def decodeReadStatus (a : Byte) (reg n : Half) (rest : Bytes) : Except DecodeError Instr :=
  if reg ≠ statusBankAddr then .error (.badRegister reg)
  else if n ≠ 0#16 then .error (.badCount n)
  else
    match rest with
    | [hi, lo] => .ok (.wireReadStatus a (hi ++ lo))
    | _ => .error .badLength

/-- F_WS after the header (R72): count 1, byte-count 4, four value bytes, the checksum. -/
def decodeWriteSingle (a : Byte) (reg n : Half) (rest : Bytes) : Except DecodeError Instr :=
  if n ≠ 1#16 then .error (.badCount n)
  else
    match rest with
    | [bc, b3, b2, b1, b0, hi, lo] =>
      if bc ≠ 4#8 then .error (.badByteCount bc) else .ok (.wireWriteSingle a reg (b3 ++ b2 ++ b1 ++ b0 : Word) (hi ++ lo))
    | _ => .error .badLength

/-- F_WM after the header (R73): count 1 to 63, byte-count four times it, the values, the checksum. -/
def decodeWriteMultiple (a : Byte) (start n : Half) (rest : Bytes) : Except DecodeError Instr :=
  if n.toNat < 1 ∨ maxCount < n.toNat then .error (.badCount n)
  else
    match rest with
    | bc :: payload =>
      if bc.toNat ≠ 4 * n.toNat then .error (.badByteCount bc)
      else
        match takeWords n.toNat payload with
        | some (vals, [hi, lo]) => .ok (.wireWriteMultiple a start vals (hi ++ lo))
        | _ => .error .badLength
    | [] => .error .badLength

/-- The wire command of a frame, told from byte 1 (R77, R78, R89). The checksum field is read, not checked: the
frame codec verifies nothing (R105), and well-formedness says when the field is right. -/
def decodeFrame (f : Bytes) : Except DecodeError Instr :=
  match f with
  | a :: c :: rh :: rl :: nh :: nl :: rest =>
    if c = cmdByte .readRegisters then decodeReadStatus a (rh ++ rl) (nh ++ nl) rest
    else if c = cmdByte .writeSingle then decodeWriteSingle a (rh ++ rl) (nh ++ nl) rest
    else if c = cmdByte .writeMultiple then decodeWriteMultiple a (rh ++ rl) (nh ++ nl) rest
    else .error (.unknownCommand c)
  | _ => .error .shortFrame

/-- The operation an encoding stands for. -/
def decode : Encoding → Except DecodeError Instr
  | .host r => decodeRequest r
  | .wire f => decodeFrame f

/-- The length of a request frame, told from bytes 1, 4 and 5 of its header (R78, R89). -/
def frameLength (header : Bytes) : Option Nat :=
  if byteAt header 1 = cmdByte .readRegisters then some 8
  else if byteAt header 1 = cmdByte .writeSingle then some 13
  else if byteAt header 1 = cmdByte .writeMultiple then
    some (9 + 4 * (byteAt header 4 ++ byteAt header 5 : Half).toNat)
  else none

/-- The encoding of an operation: the record of R82 with every unread field zero or empty, or the frame of
R71 to R73. -/
def encode : Instr → Encoding
  | .openPort port baud => .host { opc := 0x01#8, v32 := baud, data := port }
  | .closePort => .host { opc := 0x02#8 }
  | .flushPort => .host { opc := 0x03#8 }
  | .csrRead idx => .host { opc := 0x04#8, a16 := idx }
  | .csrWrite idx v => .host { opc := 0x05#8, a16 := idx, v32 := v }
  | .setCurrent v => .host { opc := 0x10#8, v32 := v }
  | .setPower v => .host { opc := 0x11#8, v32 := v }
  | .setResistance v => .host { opc := 0x12#8, v32 := v }
  | .setMode m => .host { opc := 0x13#8, v32 := m }
  | .setLoadSwitch v => .host { opc := 0x14#8, v32 := v }
  | .writeRegister reg v => .host { opc := 0x15#8, a16 := reg, v32 := v }
  | .writeRegisters start count vals => .host { opc := 0x16#8, a16 := start, v32 := count.setWidth 32, vals := vals }
  | .getStatus => .host { opc := 0x20#8 }
  | .getCurrent => .host { opc := 0x21#8 }
  | .getVoltage => .host { opc := 0x22#8 }
  | .getMode => .host { opc := 0x23#8 }
  | .getSwitch => .host { opc := 0x24#8 }
  | .crcCompute d n => .host { opc := 0x30#8, a16 := n, data := d }
  | .crcInsert m n c => .host { opc := 0x31#8, a16 := n, v32 := c.setWidth 32, data := m }
  | .crcExtract m n => .host { opc := 0x32#8, a16 := n, data := m }
  | .crcSet m n => .host { opc := 0x33#8, a16 := n, data := m }
  | .crcVerify m n strict => .host { opc := 0x34#8, a16 := n, v32 := (BitVec.ofBool strict).setWidth 32, data := m }
  | .buildReadStatus => .host { opc := 0x38#8 }
  | .buildWriteSingle reg v => .host { opc := 0x39#8, a16 := reg, v32 := v }
  | .buildWriteMultiple start count vals =>
    .host { opc := 0x3A#8, a16 := start, v32 := count.setWidth 32, vals := vals }
  | .decodeStatusBank r => .host { opc := 0x3B#8, data := r }
  | .wireReadStatus a c => .wire ([a, 0x03#8, 0x03#8, 0x00#8, 0x00#8, 0x00#8] ++ be16 c)
  | .wireWriteSingle a reg v c => .wire ([a, 0x06#8] ++ be16 reg ++ [0x00#8, 0x01#8, 0x04#8] ++ be32 v ++ be16 c)
  | .wireWriteMultiple a start vals c =>
    .wire ([a, 0x16#8] ++ be16 start ++ be16 (BitVec.ofNat 16 vals.length) ++ [BitVec.ofNat 8 (4 * vals.length)] ++
      be32s vals ++ be16 c)

/-- The request record of an operation's encoding; a wire command has none, and the reserved opcode 0x00 stands. -/
def requestOf (i : Instr) : Request :=
  match encode i with
  | .host r => r
  | .wire _ => { opc := 0x00#8 }

/-- The frame of an operation's encoding; a host operation has none. -/
def frameOf (i : Instr) : Bytes :=
  match encode i with
  | .host _ => []
  | .wire f => f

/-- The n low bytes of a number, the least significant first: how spec/opcode_table.json numbers bits. -/
def bytesOfNat (n w : Nat) : Bytes := (List.range n).map fun k => BitVec.ofNat 8 (w >>> (8 * k))

/-- The encoding whose bits are w (log entry 10). Below the 64 bits of the shortest frame it is a request record
whose opc, a16 and v32 are the bits 7:0, 23:8 and 55:24, with empty lists. From 64 bits on it is a wire frame of
the length its header tells. -/
def encodingOfWord (nbits w : Nat) : Encoding :=
  if nbits < 64 then
    .host { opc := BitVec.ofNat 8 w, a16 := BitVec.ofNat 16 (w >>> 8), v32 := BitVec.ofNat 32 (w >>> 24) }
  else
    match frameLength (bytesOfNat 6 w) with
    | some n => .wire (bytesOfNat n w)
    | none => .wire (bytesOfNat ((nbits + 7) / 8) w)

/-- What the decoder reads from an instruction whose bits are w. -/
def decodeTableWord (nbits w : Nat) : Option Instr :=
  match decode (encodingOfWord nbits w) with
  | .ok i => some i
  | .error _ => none

end Sys2Proof
end

