-- ==== Sys2Proof/Machine/State.lean ====
section
/-! DEFINITION. The state of MBCORE (10_state.md R22), what the model holds of its surroundings (R39), and the
state after reset (70_reset_and_hazards.md R151). Plain data throughout. -/

namespace Sys2Proof.Machine

/-- The sequencer phases (R34). -/
inductive Phase where
  | idle
  | check
  | build
  | seal
  | tx
  | wait
  | rx
  | verify
  | decode
  | done
  deriving DecidableEq, Repr

/-- The link state (R35). -/
inductive Link where
  | closed
  | opened
  deriving DecidableEq, Repr

/-- The turnaround timer (R39, R148). -/
inductive Timer where
  | stopped
  | running
  deriving DecidableEq, Repr

/-- Parity of the character format (R60). -/
inductive Parity where
  | none
  | odd
  | even
  deriving DecidableEq, Repr

/-- The character format of a T_OPEN (R60, R61). -/
structure CharFormat where
  dataBits : Nat
  parity : Parity
  stopBits : Nat
  deriving DecidableEq, Repr

/-- The answer to a T_READ (R19, R64). -/
inductive ReadAnswer where
  | ok (r : Bytes)
  | fail (why : ReadFail)
  deriving DecidableEq, Repr

/-- One transport answer still to come (R19, R21): a Boolean for T_OPEN and T_WRITE, a read answer for T_READ. -/
inductive Answer where
  | done (ok : Bool)
  | read (a : ReadAnswer)
  deriving DecidableEq, Repr

/-- The transport's answers (log entry 3): those given as data, oldest first, and how many free answers have been
taken where none was. The transport's own buffers and port are out of scope (R7, R39; log entry 13). -/
structure Feed where
  answers : List Answer
  draws : Nat
  deriving DecidableEq, Repr

/-- A transport event with its operands and its answer (R19, R69). -/
inductive Event where
  /-- T_OPEN(port, baud), with the character format it calls open with (R61). -/
  | openPort (port : Bytes) (baud : Word) (format : CharFormat) (ok : Bool)
  /-- T_WRITE(f) (R62). -/
  | write (f : Bytes) (ok : Bool)
  /-- T_WAIT(P_TURNAROUND) (R63). -/
  | wait (duration : Nat)
  /-- T_READ(n) (R64). -/
  | read (n : Nat) (a : ReadAnswer)
  /-- T_FLUSH (R65). -/
  | flush
  /-- T_CLOSE (R66). -/
  | close
  deriving DecidableEq, Repr

/-- The latch REQ (R36, R113): the request and the configuration sampled at acceptance. -/
structure Latch where
  request : Request
  strict : Bool
  swap : Bool
  addr : Byte
  deriving DecidableEq, Repr

/-- The result record (R84); the latch RES (R36). -/
structure Result where
  err : BitVec 3
  reason : BitVec 8
  warn : Bool
  value : Word
  data : Bytes
  deriving DecidableEq, Repr

/-- A result with no error, no warning and nothing returned. -/
def Result.blank : Result := { err := 0#3, reason := 0#8, warn := false, value := 0#32, data := [] }

/-- The fields of LAST_RESULT (R30). -/
structure LastResult where
  err : BitVec 3
  warn : Bool
  reason : BitVec 8
  deriving DecidableEq, Repr

/-- The errors an operation can raise (60_exceptions.md R136). -/
inductive OpError where
  | addrZero
  | notOpen
  | badParam
  | alreadyOpen
  | badOpcode
  | badCsr
  | openFail
  | writeFail
  | readTimeout
  | readIo
  | crcMismatch
  | shortResponse
  | malformedAck
  deriving DecidableEq, Repr

/-- What the host and the platform do to the block, in order (R21, R36, R111, R150; log entry 7). -/
inductive HostEvent where
  /-- A request presented; it waits while the block is busy, and then runs as one transition (R21, R111, R112). -/
  | request (r : Request)
  /-- A request presented whose acceptance is a step of its own, the phases following one edge a step (R111, R112). -/
  | accept (r : Request)
  /-- One phase edge elapses (R111); nothing happens in IDLE. -/
  | elapse
  /-- The platform asserts reset (R150, R152). -/
  | reset
  deriving DecidableEq, Repr

/-- A byte buffer: the cells that do not hold 0, addresses strictly rising (log entry 1). -/
abbrev Memory := List Host.Cell

/-- The canonical form of a buffer of `size` bytes. -/
def Memory.wf (size : Nat) (m : Memory) : Bool :=
  decide (m.Pairwise fun x y => x.1 < y.1) && m.all fun c => decide (c.1 < size) && c.2 != 0#8

/-- The architectural state (R22) and the model's record of its surroundings (R39). -/
@[ext]
structure State where
  /-- The build parameters; CFG_ID is their view (R37). No operation writes them. -/
  params : Params
  /-- CTRL.STRICT (R26). -/
  strict : Bool
  /-- CTRL.CRC_SWAP (R27). -/
  crcSwap : Bool
  /-- ADDR.ADDRESS (R28). -/
  addr : Byte
  /-- The link state; STATUS.LINK is its view (R29, R35). -/
  link : Link
  /-- STATUS.VALID (R29). -/
  valid : Bool
  /-- LAST_RESULT (R30). -/
  lastResult : LastResult
  /-- DEV_SWITCH.SWITCH (R31). -/
  devSwitch : BitVec 1
  /-- DEV_MODE.MODE (R32). -/
  devMode : BitVec 3
  /-- DEV_VOLTAGE.VOLTAGE_MV (R33). -/
  devVoltage : BitVec 24
  /-- DEV_CURRENT.CURRENT_MA (R33). -/
  devCurrent : BitVec 24
  /-- The sequencer phase (R34). -/
  phase : Phase
  /-- The request latch (R36). -/
  req : Option Latch
  /-- The result latch (R36). -/
  res : Result
  /-- TXBUF (R38). -/
  txbuf : Memory
  /-- RXBUF (R38). -/
  rxbuf : Memory
  /-- The turnaround timer (R39, R148). -/
  timer : Timer
  /-- The transport event history (R39, R69); an event enters it with its answer (log entry 14). -/
  history : List Event
  /-- The events of the host and the platform still to come. -/
  inbox : List HostEvent
  /-- The results returned to the host, oldest first (R118). -/
  returned : List Result
  /-- The model's own: the transport's answers, the draws of R19 (log entry 3). -/
  feed : Feed
  deriving DecidableEq, Repr

/-- Why the model stops (log entry 11). None is an error of the block (R145): those end an operation with a result
(R137). -/
inductive Fault where
  /-- Raised by the meaning of WIRE_WRITE_MULTIPLE on no value or more than 63: no such frame exists (R73, R89).
  Safe: the block guards the count before it builds (R125). -/
  | countOutOfRange
  /-- Raised by step in phase TX when TXBUF holds no request frame (R77). Safe: the invariant excludes it. -/
  | noFrame
  /-- Raised by a phase edge of a busy block whose REQ holds no operation of that phase (R36). Safe: the
  invariant excludes it. -/
  | noOperation
  deriving DecidableEq, Repr

/-- Why the model gives no meaning. -/
inductive Refusal where
  /-- Raised by exec for an instruction without a meaning; safe. No arm of this model uses it. -/
  | notModelled (mnemonic : String)
  deriving DecidableEq, Repr

/-- The block right after reset (R151) for given build parameters, with nothing around it yet. RES, TXBUF and RXBUF
are unspecified there (log entries 1 and 2). -/
def State.powerOn (p : Params) : State :=
  { params := p
    strict := p.strictReset
    crcSwap := p.crcSwapReset
    addr := 0#8
    link := .closed
    valid := false
    lastResult := { err := 0#3, warn := false, reason := 0#8 }
    devSwitch := 0#1
    devMode := 0#3
    devVoltage := 0#24
    devCurrent := 0#24
    phase := .idle
    req := none
    res := Result.blank
    txbuf := []
    rxbuf := []
    timer := .stopped
    history := []
    inbox := []
    returned := []
    feed := { answers := [], draws := 0 } }

/-- The machine right after reset, with the canonical parameters (R9 to R12, R14, R151). -/
def State.reset : State := State.powerOn Params.canonical

end Sys2Proof.Machine
end

