-- ==== Sys2Proof/Machine/Flags.lean ====
section
/-! DEFINITION. The flags and codes of the block: the words of the control and status registers (10_state.md R23
to R33, R37, R40) and the error and reason codes (60_exceptions.md R136). MBCORE has no arithmetic condition codes
(R40). A reserved bit is a zero of its word (R24). -/

namespace Sys2Proof.Machine

/-- STATUS.LINK of a link state (R29). -/
def linkBit : Link → BitVec 1
  | .closed => 0#1
  | .opened => 1#1

/-- CTRL (R25): bit 0 STRICT, bit 1 CRC_SWAP. -/
def ctrlWord (s : State) : Word := (0#30 ++ BitVec.ofBool s.crcSwap ++ BitVec.ofBool s.strict : BitVec 32)

/-- ADDR (R28): bits 7:0 ADDRESS. -/
def addrWord (s : State) : Word := s.addr.setWidth 32

/-- STATUS (R29): bit 0 LINK, bit 1 VALID. -/
def statusWord (s : State) : Word := (0#30 ++ BitVec.ofBool s.valid ++ linkBit s.link : BitVec 32)

/-- LAST_RESULT (R30): bits 2:0 ERR, bit 3 WARN, bits 15:8 REASON. -/
def lastResultWord (s : State) : Word :=
  (0#16 ++ s.lastResult.reason ++ 0#4 ++ BitVec.ofBool s.lastResult.warn ++ s.lastResult.err : BitVec 32)

/-- CFG_ID (R37): bits 2:0 MODE_MASK, bits 12:8 OFF_V, bits 20:16 OFF_I. -/
def cfgWord (p : Params) : Word := (0#11 ++ p.offI ++ 0#3 ++ p.offV ++ 0#5 ++ p.modeMask : BitVec 32)

/-- CSR[i] (R23); none for a reserved index. -/
def csrValue (s : State) (i : Half) : Option Word :=
  if i = 0x0000#16 then some (ctrlWord s)
  else if i = 0x0001#16 then some (addrWord s)
  else if i = 0x0002#16 then some (statusWord s)
  else if i = 0x0003#16 then some (lastResultWord s)
  else if i = 0x0004#16 then some (s.devSwitch.setWidth 32)
  else if i = 0x0005#16 then some (s.devMode.setWidth 32)
  else if i = 0x0006#16 then some (s.devVoltage.setWidth 32)
  else if i = 0x0007#16 then some (s.devCurrent.setWidth 32)
  else if i = 0x0008#16 then some (cfgWord s.params)
  else none

/-- The err code of an error (R136). -/
def errCode : OpError → BitVec 3
  | .addrZero | .notOpen | .badParam | .alreadyOpen | .badOpcode | .badCsr => 1#3
  | .openFail | .writeFail | .readTimeout | .readIo => 2#3
  | .crcMismatch => 3#3
  | .shortResponse | .malformedAck => 4#3

/-- The reason code of an error (R136). -/
def reasonCode : OpError → BitVec 8
  | .addrZero => 1#8
  | .notOpen => 2#8
  | .badParam => 3#8
  | .alreadyOpen => 4#8
  | .badOpcode => 5#8
  | .badCsr => 6#8
  | .openFail => 1#8
  | .writeFail => 2#8
  | .readTimeout => 3#8
  | .readIo => 4#8
  | .crcMismatch => 1#8
  | .shortResponse => 1#8
  | .malformedAck => 2#8

/-- The error of a failed T_READ (R115, D21). -/
def readError : ReadFail → OpError
  | .timeout => .readTimeout
  | .io => .readIo
  | .short => .shortResponse

end Sys2Proof.Machine
end

