-- ==== Sys2Proof/Machine/Ops.lean ====
section
/-! DEFINITION. The named operations over buffers, transport answers and the sequencer's phases: acceptance, raise,
return, and the common steps of a frame-issuing operation (42_sequencer.md section 1; 60_exceptions.md R137). -/

namespace Sys2Proof.Machine

/-! ### Byte buffers (R18, R38) -/

/-- One byte of a buffer; an unlisted one reads 0 (log entry 1). -/
def memRead : Memory → Nat → Byte
  | [], _ => 0#8
  | (b, w) :: m, a => if a = b then w else memRead m a

/-- Stores one byte, keeping the canonical form: a stored 0 leaves no cell. -/
def memWrite : Memory → Nat → Byte → Memory
  | [], a, v => if v = 0#8 then [] else [(a, v)]
  | (b, w) :: m, a, v =>
    if a < b then (if v = 0#8 then (b, w) :: m else (a, v) :: (b, w) :: m)
    else if a = b then (if v = 0#8 then m else (a, v) :: m)
    else (b, w) :: memWrite m a v

/-- MemRead(buf, a, n) (R18). -/
def memReadBytes (m : Memory) (a n : Nat) : Bytes := (List.range n).map fun k => memRead m (a + k)

/-- MemWrite(buf, a, n, v) (R18), n being the number of bytes given. -/
def memWriteBytes (m : Memory) (a : Nat) : Bytes → Memory
  | [] => m
  | b :: bs => memWriteBytes (memWrite m a b) (a + 1) bs

/-! ### Transport answers (R19, R64; log entry 3) -/

/-- The free answer k to a T_READ(n): any failure, or any n bytes (R64). -/
def freeRead (k n : Nat) : ReadAnswer :=
  match Config.freeFail k with
  | some why => .fail why
  | none => .ok ((List.range n).map (Config.freeByte k))

/-- The answer to the next T_OPEN or T_WRITE (R61, R62). -/
def feedOk (f : Feed) : Bool :=
  match f.answers with
  | .done b :: _ => b
  | _ => Config.freeOk f.draws

/-- The answers left once that one is taken. -/
def afterOk (f : Feed) : Feed :=
  match f.answers with
  | .done _ :: rest => { f with answers := rest }
  | rest => { answers := rest.tail, draws := f.draws + 1 }

/-- The answer to the next T_READ(n); an Ok answer has n bytes (R64). -/
def feedRead (n : Nat) (f : Feed) : ReadAnswer :=
  match f.answers with
  | .read (.ok r) :: _ => if r.length = n then .ok r else freeRead f.draws n
  | .read (.fail why) :: _ => .fail why
  | _ => freeRead f.draws n

/-- The answers left once that one is taken. -/
def afterRead (n : Nat) (f : Feed) : Feed :=
  match f.answers with
  | .read (.ok r) :: rest =>
    if r.length = n then { f with answers := rest } else { answers := rest, draws := f.draws + 1 }
  | .read (.fail _) :: rest => { f with answers := rest }
  | rest => { answers := rest.tail, draws := f.draws + 1 }

/-- The answers left. -/
def setFeed (f : Feed) (s : State) : State := { s with feed := f }

/-- Appends an event to the history (R69). -/
def record (e : Event) (s : State) : State := { s with history := s.history ++ [e] }

/-- The sequencer moves to phase p (R18: `phase <- P`). -/
def setPhase (p : Phase) (s : State) : State := { s with phase := p }

/-- RES.warn <- 1 (R100, R116). -/
def setWarn (s : State) : State := { s with res := { s.res with warn := true } }

/-- The turnaround timer starts, and the sequencer waits for it (R148). -/
def startTimer (s : State) : State := { s with phase := .wait, timer := .running }

/-- The turnaround timer has ended (R148). -/
def stopTimer (s : State) : State := { s with phase := .rx, timer := .stopped }

/-- The response into RXBUF (R115). -/
def storeRx (r : Bytes) (s : State) : State := { s with rxbuf := memWriteBytes s.rxbuf 0 r, phase := .verify }

/-! ### Acceptance, raise, completion, return (R112, R113, R118, R137) -/

/-- REQ.strict, REQ.swap, REQ.addr; with REQ empty the live values, which are the same (R113). -/
def reqStrict (s : State) : Bool :=
  match s.req with
  | some q => q.strict
  | none => s.strict

/-- REQ.swap (R113). -/
def reqSwap (s : State) : Bool :=
  match s.req with
  | some q => q.swap
  | none => s.crcSwap

/-- REQ.addr (R113). -/
def reqAddr (s : State) : Byte :=
  match s.req with
  | some q => q.addr
  | none => s.addr

/-- Acceptance (R112) with configuration sampling (R113). RES starts blank: warn is 1 only if this operation sets
it (R118). -/
def accept (r : Request) (s : State) : State :=
  { s with
    phase := .check
    req := some { request := r, strict := s.strict, swap := s.crcSwap, addr := s.addr }
    res := Result.blank }

/-- raise Error(code, reason) (R137, R144): RES.warn keeps what it held. -/
def raise (e : OpError) (s : State) : State :=
  { s with
    phase := .done
    res := { s.res with err := errCode e, reason := reasonCode e, value := 0#32, data := [] } }

/-- The end of an operation that raised nothing (R118): RES.warn keeps what it held. -/
def succeed (value : Word) (data : Bytes) (s : State) : State :=
  { s with
    phase := .done
    res := { s.res with err := 0#3, reason := 0#8, value := value, data := data } }

/-- Whether the operation in REQ is CSR_READ, the one that leaves LAST_RESULT (R118, R134). -/
def isCsrRead (s : State) : Bool :=
  match s.req with
  | some q => q.request.opc == 0x04#8
  | none => false

/-- DONE to IDLE (R118): LAST_RESULT, the result returned, ready. REQ is left empty (log entry 8). -/
def finish (s : State) : State :=
  { s with
    lastResult :=
      if isCsrRead s then s.lastResult
      else { err := s.res.err, warn := s.res.warn, reason := s.res.reason }
    returned := s.returned ++ [s.res]
    req := none
    phase := .idle }

/-! ### The phases of a frame-issuing operation (R114 to R117) -/

/-- What one frame-issuing operation gives the common steps: the wire command, the frame's layout for a device
address, the operation's own check, and the result value read from the state after the update. -/
structure FrameOp where
  cmd : WireCmd
  layout : Byte → Bytes
  paramsOk : Bool
  value : State → Word

/-- check_frame_op (R114): the address, then the link, then the parameters. -/
def checkFrameOp (paramsOk : Bool) (s : State) : State :=
  if reqAddr s = 0#8 then raise .addrZero s
  else if s.link ≠ .opened then raise .notOpen s
  else if !paramsOk then raise .badParam s
  else setPhase .build s

/-- BUILD (R104, R115): the layout into TXBUF. -/
def buildTx (layout : Bytes) (s : State) : State :=
  { s with txbuf := memWriteBytes s.txbuf 0 layout, phase := .seal }

/-- SEAL (R99, R104): the n bytes of TXBUF sealed with REQ.swap. -/
def sealTx (n : Nat) (s : State) : State :=
  { s with
    txbuf := memWriteBytes s.txbuf 0 (sealCrc (memReadBytes s.txbuf 0 n) n (reqSwap s))
    phase := .tx }

/-- TX (R115, step 4): T_WRITE of the n bytes of TXBUF. The turnaround timer starts on an ok (R148). DESIGN CHOICE (log
entry 14): the event is issued, answered and recorded on the edge out of TX, so a reset in TX leaves no T_WRITE. -/
def transmit (n : Nat) (s : State) : State :=
  let ok := feedOk s.feed
  let s' := record (.write (memReadBytes s.txbuf 0 n) ok) (setFeed (afterOk s.feed) s)
  if ok then startTimer s' else raise .writeFail s'

/-- WAIT (R115, step 5; R63, R148): the turnaround delay ends, as fairness has it (log entry 4). DESIGN CHOICE (log
entry 14): T_WAIT enters the history as the wait ends, not as the timer starts, so a reset in WAIT, the timer running,
leaves a T_WRITE with no T_WAIT. -/
def turnaround (s : State) : State :=
  stopTimer (record (.wait s.params.turnaround) s)

/-- RX (R115, step 6): T_READ(RESP_LEN); the response into RXBUF. DESIGN CHOICE (log entry 14): the event is issued,
answered and recorded on the edge out of RX, so a reset in RX leaves no T_READ. -/
def receive (cmd : WireCmd) (s : State) : State :=
  let s' := record (.read (respLen cmd) (feedRead (respLen cmd) s.feed)) (setFeed (afterRead (respLen cmd) s.feed) s)
  match feedRead (respLen cmd) s.feed with
  | .ok r => storeRx r s'
  | .fail why => raise (readError why) s'

/-- The response in RXBUF. -/
def response (cmd : WireCmd) (s : State) : Bytes := memReadBytes s.rxbuf 0 (respLen cmd)

/-- VERIFY after the checksum (R116): the malformed check for a write acknowledgement, and where the phase goes
(R111). -/
def verifyAck (cmd : WireCmd) (s : State) : State :=
  if cmd = .readRegisters then setPhase .decode s
  else if ackMalformed s.params cmd (reqAddr s) (response cmd s) then raise .malformedAck s
  else succeed 0#32 [] s

/-- VERIFY (R116, R141): strict raises on a mismatch, lenient sets warn and goes on. -/
def verifyResponse (cmd : WireCmd) (s : State) : State :=
  if crcMatches (response cmd s) (respLen cmd) (reqSwap s) then verifyAck cmd s
  else if reqStrict s then raise .crcMismatch s
  else verifyAck cmd (setWarn s)

/-- update_state(r) (R117): all four fields and VALID together. -/
def updateState (r : Bytes) (s : State) : State :=
  let d := decodeStatus s.params r
  { s with devSwitch := d.switch, devMode := d.mode, devVoltage := d.voltage, devCurrent := d.current, valid := true }

/-- DECODE and the update half of step 9 (R117), with the operation's result value. -/
def decodeUpdate (value : State → Word) (s : State) : State :=
  let s' := updateState (response .readRegisters s) s
  succeed (value s') [] s'

/-- The phases TX to DECODE of a frame of n bytes in TXBUF (R111, R115 to R117), ending in DONE. -/
def transact (cmd : WireCmd) (n : Nat) (value : State → Word) (s : State) : State :=
  let s1 := transmit n s
  if s1.phase = .wait then
    let s2 := receive cmd (turnaround s1)
    if s2.phase = .verify then
      let s3 := verifyResponse cmd s2
      if s3.phase = .decode then decodeUpdate value s3 else s3
    else s2
  else s1

/-- A frame-issuing operation from acceptance to return (R111, R114 to R118). -/
def runFrameOp (r : Request) (op : FrameOp) (s : State) : State :=
  let s1 := checkFrameOp op.paramsOk (accept r s)
  if s1.phase = .build then
    let layout := op.layout (reqAddr s1)
    finish (transact op.cmd layout.length op.value (sealTx layout.length (buildTx layout s1)))
  else finish s1

/-- Any other host operation from acceptance to return: its effect is done in CHECK (R111). -/
def runLocalOp (r : Request) (effect : State → State) (s : State) : State := finish (effect (accept r s))

/-! ### Reset (R150 to R152) -/

/-- The platform's reset: every piece of the block's state to its reset value, whatever the phase; an operation in
progress is abandoned with no result and no T_CLOSE. What lies outside the block is kept (R151). Of an event cut off
in its phase the history shows nothing (log entry 14). -/
def blockReset (s : State) : State :=
  { State.powerOn s.params with
    history := s.history
    inbox := s.inbox
    returned := s.returned
    feed := s.feed }

end Sys2Proof.Machine
end

