-- ==== Sys2Proof/Machine/ChecksumOps.lean ====
section
/-! DEFINITION. The checksum service operations (40_checksum.md R95 to R100). They check neither link nor address
and issue no transport event (R95). -/

namespace Sys2Proof.Machine

/-- The guard of CRC_COMPUTE (R95). -/
def guardCompute (d : Bytes) (n : Half) : Bool := decide (d.length ≤ maxFrame) && decide (n.toNat ≤ d.length)

/-- The guard of the other four (R95). -/
def guardTrailer (d : Bytes) (n : Half) : Bool := guardCompute d n && decide (2 ≤ n.toNat)

/-- CRC_COMPUTE (R96). -/
def crcComputeOp (d : Bytes) (n : Half) (s : State) : State :=
  if guardCompute d n then succeed ((crcOf d n.toNat (reqSwap s)).setWidth 32) [] s else raise .badParam s

/-- CRC_COMPUTE from acceptance to return (R96). -/
def execCrcCompute (d : Bytes) (n : Half) (s : State) : Host.Outcome State Fault Refusal :=
  .next (runLocalOp { opc := 0x30#8, a16 := n, data := d } (crcComputeOp d n) s)

/-- CRC_INSERT (R97): the given crc is not swapped. -/
def crcInsertOp (m : Bytes) (n c : Half) (s : State) : State :=
  if guardTrailer m n then succeed 0#32 (insertCrc m n.toNat c) s else raise .badParam s

/-- CRC_INSERT from acceptance to return (R97). -/
def execCrcInsert (m : Bytes) (n c : Half) (s : State) : Host.Outcome State Fault Refusal :=
  .next (runLocalOp { opc := 0x31#8, a16 := n, v32 := c.setWidth 32, data := m } (crcInsertOp m n c) s)

/-- CRC_EXTRACT (R98): no swap. -/
def crcExtractOp (m : Bytes) (n : Half) (s : State) : State :=
  if guardTrailer m n then succeed ((extractCrc m n.toNat).setWidth 32) [] s else raise .badParam s

/-- CRC_EXTRACT from acceptance to return (R98). -/
def execCrcExtract (m : Bytes) (n : Half) (s : State) : Host.Outcome State Fault Refusal :=
  .next (runLocalOp { opc := 0x32#8, a16 := n, data := m } (crcExtractOp m n) s)

/-- CRC_SET (R99). -/
def crcSetOp (m : Bytes) (n : Half) (s : State) : State :=
  if guardTrailer m n then succeed 0#32 (sealCrc m n.toNat (reqSwap s)) s else raise .badParam s

/-- CRC_SET from acceptance to return (R99). -/
def execCrcSet (m : Bytes) (n : Half) (s : State) : Host.Outcome State Fault Refusal :=
  .next (runLocalOp { opc := 0x33#8, a16 := n, data := m } (crcSetOp m n) s)

/-- CRC_VERIFY (R100): its own strict operand, not CTRL.STRICT. -/
def crcVerifyOp (m : Bytes) (n : Half) (strict : Bool) (s : State) : State :=
  if guardTrailer m n then
    if crcMatches m n.toNat (reqSwap s) then succeed 1#32 [] s
    else if strict then raise .crcMismatch s
    else succeed 0#32 [] (setWarn s)
  else raise .badParam s

/-- CRC_VERIFY from acceptance to return (R100). -/
def execCrcVerify (m : Bytes) (n : Half) (strict : Bool) (s : State) : Host.Outcome State Fault Refusal :=
  .next
    (runLocalOp { opc := 0x34#8, a16 := n, v32 := (BitVec.ofBool strict).setWidth 32, data := m }
      (crcVerifyOp m n strict) s)

end Sys2Proof.Machine
end

