-- ==== Sys2Proof/Machine/CodecOps.lean ====
section
/-! DEFINITION. The frame codec service operations (41_frame_codec.md R107 to R110). No address check, no transport
event, no device-state update (D34). -/

namespace Sys2Proof.Machine

/-- BUILD_READ_STATUS (R107). -/
def buildReadStatusOp (s : State) : State := succeed 0#32 (readStatusFrame (reqAddr s) (reqSwap s)) s

/-- BUILD_READ_STATUS from acceptance to return (R107). -/
def execBuildReadStatus (s : State) : Host.Outcome State Fault Refusal :=
  .next (runLocalOp { opc := 0x38#8 } buildReadStatusOp s)

/-- BUILD_WRITE_SINGLE (R108). -/
def buildWriteSingleOp (reg : Half) (v : Word) (s : State) : State :=
  succeed 0#32 (writeSingleFrame (reqAddr s) reg v (reqSwap s)) s

/-- BUILD_WRITE_SINGLE from acceptance to return (R108). -/
def execBuildWriteSingle (reg : Half) (v : Word) (s : State) : Host.Outcome State Fault Refusal :=
  .next (runLocalOp { opc := 0x39#8, a16 := reg, v32 := v } (buildWriteSingleOp reg v) s)

/-- BUILD_WRITE_MULTIPLE (R109). -/
def buildWriteMultipleOp (start count : Half) (vals : List Word) (s : State) : State :=
  if countOk count vals then succeed 0#32 (writeMultipleFrame (reqAddr s) start count vals (reqSwap s)) s
  else raise .badParam s

/-- BUILD_WRITE_MULTIPLE from acceptance to return (R109). -/
def execBuildWriteMultiple (start count : Half) (vals : List Word) (s : State) : Host.Outcome State Fault Refusal :=
  .next
    (runLocalOp { opc := 0x3A#8, a16 := start, v32 := count.setWidth 32, vals := vals }
      (buildWriteMultipleOp start count vals) s)

/-- The result data of DECODE_STATUS_BANK: [switch, mode] ++ be24(voltage) ++ be24(current) (R110). -/
def statusBytes (d : StatusFields) : Bytes :=
  [d.switch.setWidth 8, d.mode.setWidth 8] ++ be24 d.voltage ++ be24 d.current

/-- DECODE_STATUS_BANK (R110): no CRC check, no state update. -/
def decodeStatusBankOp (r : Bytes) (s : State) : State :=
  if r.length = statusLen then succeed 0#32 (statusBytes (decodeStatus s.params r)) s else raise .badParam s

/-- DECODE_STATUS_BANK from acceptance to return (R110). -/
def execDecodeStatusBank (r : Bytes) (s : State) : Host.Outcome State Fault Refusal :=
  .next (runLocalOp { opc := 0x3B#8, data := r } (decodeStatusBankOp r) s)

end Sys2Proof.Machine
end

