-- ==== Sys2Proof/Machine/CsrOps.lean ====
section
/-! DEFINITION. The register access operations CSR_READ and CSR_WRITE (42_sequencer.md R134, R135; 10_state.md R23,
R24). -/

namespace Sys2Proof.Machine

/-- CSR_READ (R134). -/
def csrReadOp (idx : Half) (s : State) : State :=
  match csrValue s idx with
  | some v => succeed v [] s
  | none => raise .badCsr s

/-- CSR_READ from acceptance to return (R134). -/
def execCsrRead (idx : Half) (s : State) : Host.Outcome State Fault Refusal :=
  .next (runLocalOp { opc := 0x04#8, a16 := idx } (csrReadOp idx) s)

/-- CTRL.STRICT and CTRL.CRC_SWAP written (R26, R27). -/
def setCtrl (strict swap : Bool) (s : State) : State := { s with strict := strict, crcSwap := swap }

/-- ADDR.ADDRESS written (R28). -/
def setAddr (a : Byte) (s : State) : State := { s with addr := a }

/-- CSR_WRITE (R135): the defined fields of CTRL and ADDR; every other index fails (R24). -/
def csrWriteOp (idx : Half) (v : Word) (s : State) : State :=
  if idx = 0x0000#16 then succeed 0#32 [] (setCtrl (v.getLsbD 0) (v.getLsbD 1) s)
  else if idx = 0x0001#16 then succeed 0#32 [] (setAddr (v.extractLsb' 0 8) s)
  else raise .badCsr s

/-- CSR_WRITE from acceptance to return (R135). -/
def execCsrWrite (idx : Half) (v : Word) (s : State) : Host.Outcome State Fault Refusal :=
  .next (runLocalOp { opc := 0x05#8, a16 := idx, v32 := v } (csrWriteOp idx v) s)

end Sys2Proof.Machine
end

