-- ==== Sys2Proof/Machine/LinkOps.lean ====
section
/-! DEFINITION. The link operations OPEN, CLOSE and FLUSH (42_sequencer.md R131 to R133). Each `…Op` is the effect
in CHECK, its one event recorded on the edge out of CHECK (log entry 14); each `exec…` is the whole operation. -/

namespace Sys2Proof.Machine

/-- The character format of every T_OPEN: 8 data bits, no parity, 1 stop bit (R61, D38). -/
def format8N1 : CharFormat := { dataBits := 8, parity := .none, stopBits := 1 }

/-- The link state changes (R35). -/
def setLink (l : Link) (s : State) : State := { s with link := l }

/-- OPEN (R131). -/
def openPortOp (port : Bytes) (baud : Word) (s : State) : State :=
  if s.link = .opened then raise .alreadyOpen s
  else
    let s' := record (.openPort port baud format8N1 (feedOk s.feed)) (setFeed (afterOk s.feed) s)
    if feedOk s.feed then succeed 0#32 [] (setLink .opened s') else raise .openFail s'

/-- OPEN from acceptance to return (R131). -/
def execOpenPort (port : Bytes) (baud : Word) (s : State) : Host.Outcome State Fault Refusal :=
  .next (runLocalOp { opc := 0x01#8, v32 := baud, data := port } (openPortOp port baud) s)

/-- CLOSE (R132). -/
def closePortOp (s : State) : State :=
  if s.link = .opened then succeed 0#32 [] (setLink .closed (record .close s)) else succeed 0#32 [] s

/-- CLOSE from acceptance to return (R132). -/
def execClosePort (s : State) : Host.Outcome State Fault Refusal :=
  .next (runLocalOp { opc := 0x02#8 } closePortOp s)

/-- FLUSH (R133). -/
def flushPortOp (s : State) : State :=
  if s.link ≠ .opened then raise .notOpen s else succeed 0#32 [] (record .flush s)

/-- FLUSH from acceptance to return (R133). -/
def execFlushPort (s : State) : Host.Outcome State Fault Refusal :=
  .next (runLocalOp { opc := 0x03#8 } flushPortOp s)

end Sys2Proof.Machine
end

