-- ==== Sys2Proof/Machine/StatusOps.lean ====
section
/-! DEFINITION. The status-bank operations (42_sequencer.md R119 to R123). Each reads the whole status bank again
(20_memory.md R58) and differs in its result value only (30_encoding.md R91). -/

namespace Sys2Proof.Machine

/-- The status-bank read of R119 with a result value taken after the update. -/
def statusOp (value : State → Word) : FrameOp :=
  { cmd := .readRegisters, layout := layoutReadStatus, paramsOk := true, value := value }

/-- GET_STATUS (R119): value 0. -/
def getStatusOp : FrameOp := statusOp fun _ => 0#32

/-- GET_STATUS from acceptance to return (R119). -/
def execGetStatus (s : State) : Host.Outcome State Fault Refusal := .next (runFrameOp { opc := 0x20#8 } getStatusOp s)

/-- GET_CURRENT (R120). -/
def getCurrentOp : FrameOp := statusOp fun s => s.devCurrent.setWidth 32

/-- GET_CURRENT from acceptance to return (R120). -/
def execGetCurrent (s : State) : Host.Outcome State Fault Refusal := .next (runFrameOp { opc := 0x21#8 } getCurrentOp s)

/-- GET_VOLTAGE (R121). -/
def getVoltageOp : FrameOp := statusOp fun s => s.devVoltage.setWidth 32

/-- GET_VOLTAGE from acceptance to return (R121). -/
def execGetVoltage (s : State) : Host.Outcome State Fault Refusal := .next (runFrameOp { opc := 0x22#8 } getVoltageOp s)

/-- GET_MODE (R122). -/
def getModeOp : FrameOp := statusOp fun s => s.devMode.setWidth 32

/-- GET_MODE from acceptance to return (R122). -/
def execGetMode (s : State) : Host.Outcome State Fault Refusal := .next (runFrameOp { opc := 0x23#8 } getModeOp s)

/-- GET_SWITCH (R123). -/
def getSwitchOp : FrameOp := statusOp fun s => s.devSwitch.setWidth 32

/-- GET_SWITCH from acceptance to return (R123). -/
def execGetSwitch (s : State) : Host.Outcome State Fault Refusal := .next (runFrameOp { opc := 0x24#8 } getSwitchOp s)

end Sys2Proof.Machine
end

