-- ==== Sys2Proof/Machine/WireOps.lean ====
section
/-! DEFINITION. The wire commands (30_encoding.md R71 to R73, R77; 41_frame_codec.md R101 to R103) as the sequencer
carries them out: the frame stands in TXBUF in phase TX, and the phases TX to DONE follow (42_sequencer.md R111,
R115 to R118). The configuration and the result value are those of the operation in REQ (log entry 9). -/

namespace Sys2Proof.Machine

/-- The result value of the status-bank operation in REQ (R119 to R123); 0 where REQ holds none of the get
operations. -/
def statusValue (s : State) : Word :=
  match s.req with
  | none => 0#32
  | some q =>
    if q.request.opc = 0x21#8 then getCurrentOp.value s
    else if q.request.opc = 0x22#8 then getVoltageOp.value s
    else if q.request.opc = 0x23#8 then getModeOp.value s
    else if q.request.opc = 0x24#8 then getSwitchOp.value s
    else getStatusOp.value s

/-- The frame in TXBUF, ready to be sent, with nothing yet in RES (R115). -/
def loadFrame (f : Bytes) (s : State) : State :=
  { s with txbuf := memWriteBytes s.txbuf 0 f, res := Result.blank, phase := .tx }

/-- A frame from TX to return (R111, R115 to R118). -/
def runWireOp (cmd : WireCmd) (f : Bytes) (s : State) : State :=
  finish (transact cmd f.length statusValue (loadFrame f s))

/-- WIRE_READ_STATUS (R71, R101), answered by R_STATUS (R74). -/
def execWireReadStatus (a : Byte) (c : Half) (s : State) : Host.Outcome State Fault Refusal :=
  .next (runWireOp .readRegisters (frameOf (.wireReadStatus a c)) s)

/-- WIRE_WRITE_SINGLE (R72, R102), answered by R_WS (R75). -/
def execWireWriteSingle (a : Byte) (reg : Half) (v : Word) (c : Half) (s : State) :
    Host.Outcome State Fault Refusal :=
  .next (runWireOp .writeSingle (frameOf (.wireWriteSingle a reg v c)) s)

/-- WIRE_WRITE_MULTIPLE (R73, R103), answered by R_WM (R76). With no value or more than 63 there is no such
frame. -/
def execWireWriteMultiple (a : Byte) (start : Half) (vals : List Word) (c : Half) (s : State) :
    Host.Outcome State Fault Refusal :=
  if valuesValid vals then .next (runWireOp .writeMultiple (frameOf (.wireWriteMultiple a start vals c)) s)
  else .fault .countOutOfRange

end Sys2Proof.Machine
end

