-- ==== Sys2Proof/Machine/WriteOps.lean ====
section
/-! DEFINITION. The register write operations (42_sequencer.md R124 to R130; 30_encoding.md R91; 20_memory.md R43).
Each `…Op` gives the common steps what is the operation's own. -/

namespace Sys2Proof.Machine

/-- The single-register write of R124, the frame form of every set operation (R91). -/
def writeSingleOp (reg : Half) (v : Word) (paramsOk : Bool) : FrameOp :=
  { cmd := .writeSingle, layout := fun a => layoutWriteSingle a reg v, paramsOk := paramsOk, value := fun _ => 0#32 }

/-- SET_CURRENT (R126): no range check. -/
def setCurrentOp (v : Word) : FrameOp := writeSingleOp (regAddr .current) v true

/-- SET_CURRENT from acceptance to return (R126). -/
def execSetCurrent (v : Word) (s : State) : Host.Outcome State Fault Refusal :=
  .next (runFrameOp { opc := 0x10#8, v32 := v } (setCurrentOp v) s)

/-- SET_POWER (R127): no range check. -/
def setPowerOp (v : Word) : FrameOp := writeSingleOp (regAddr .watts) v true

/-- SET_POWER from acceptance to return (R127). -/
def execSetPower (v : Word) (s : State) : Host.Outcome State Fault Refusal :=
  .next (runFrameOp { opc := 0x11#8, v32 := v } (setPowerOp v) s)

/-- SET_RESISTANCE (R128): no range check. -/
def setResistanceOp (v : Word) : FrameOp := writeSingleOp (regAddr .resistance) v true

/-- SET_RESISTANCE from acceptance to return (R128). -/
def execSetResistance (v : Word) (s : State) : Host.Outcome State Fault Refusal :=
  .next (runFrameOp { opc := 0x12#8, v32 := v } (setResistanceOp v) s)

/-- SET_MODE (R129): m <= 3, whatever P_MODE_MASK is. -/
def setModeOp (m : Word) : FrameOp := writeSingleOp (regAddr .loadMode) m (decide (m.toNat ≤ 3))

/-- SET_MODE from acceptance to return (R129). -/
def execSetMode (m : Word) (s : State) : Host.Outcome State Fault Refusal :=
  .next (runFrameOp { opc := 0x13#8, v32 := m } (setModeOp m) s)

/-- SET_LOAD_SWITCH (R130): s <= 1. -/
def setLoadSwitchOp (v : Word) : FrameOp := writeSingleOp (regAddr .loadSwitch) v (decide (v.toNat ≤ 1))

/-- SET_LOAD_SWITCH from acceptance to return (R130). -/
def execSetLoadSwitch (v : Word) (s : State) : Host.Outcome State Fault Refusal :=
  .next (runFrameOp { opc := 0x14#8, v32 := v } (setLoadSwitchOp v) s)

/-- WRITE_REGISTER (R124): any address, any value. -/
def writeRegisterOp (reg : Half) (v : Word) : FrameOp := writeSingleOp reg v true

/-- WRITE_REGISTER from acceptance to return (R124). -/
def execWriteRegister (reg : Half) (v : Word) (s : State) : Host.Outcome State Fault Refusal :=
  .next (runFrameOp { opc := 0x15#8, a16 := reg, v32 := v } (writeRegisterOp reg v) s)

/-- WRITE_REGISTERS (R125): 1 <= N <= 63 and N values. -/
def writeRegistersOp (start count : Half) (vals : List Word) : FrameOp :=
  { cmd := .writeMultiple
    layout := fun a => layoutWriteMultiple a start count vals
    paramsOk := countOk count vals
    value := fun _ => 0#32 }

/-- WRITE_REGISTERS from acceptance to return (R125). -/
def execWriteRegisters (start count : Half) (vals : List Word) (s : State) : Host.Outcome State Fault Refusal :=
  .next
    (runFrameOp { opc := 0x16#8, a16 := start, v32 := count.setWidth 32, vals := vals } (writeRegistersOp start count vals) s)

end Sys2Proof.Machine
end

