-- ==== Sys2Proof/Machine/Dispatch.lean ====
section
/-! DEFINITION. The dispatch: one arm per constructor of `Instr`, each one direct call of its meaning. -/

namespace Sys2Proof.Machine

def exec (i : Instr) (s : State) : Host.Outcome State Fault Refusal :=
  match i with
  | .openPort port baud => Sys2Proof.Machine.execOpenPort port baud s
  | .closePort => Sys2Proof.Machine.execClosePort s
  | .flushPort => Sys2Proof.Machine.execFlushPort s
  | .csrRead idx => Sys2Proof.Machine.execCsrRead idx s
  | .csrWrite idx v => Sys2Proof.Machine.execCsrWrite idx v s
  | .setCurrent v => Sys2Proof.Machine.execSetCurrent v s
  | .setPower v => Sys2Proof.Machine.execSetPower v s
  | .setResistance v => Sys2Proof.Machine.execSetResistance v s
  | .setMode m => Sys2Proof.Machine.execSetMode m s
  | .setLoadSwitch v => Sys2Proof.Machine.execSetLoadSwitch v s
  | .writeRegister reg v => Sys2Proof.Machine.execWriteRegister reg v s
  | .writeRegisters start count vals => Sys2Proof.Machine.execWriteRegisters start count vals s
  | .getStatus => Sys2Proof.Machine.execGetStatus s
  | .getCurrent => Sys2Proof.Machine.execGetCurrent s
  | .getVoltage => Sys2Proof.Machine.execGetVoltage s
  | .getMode => Sys2Proof.Machine.execGetMode s
  | .getSwitch => Sys2Proof.Machine.execGetSwitch s
  | .crcCompute d n => Sys2Proof.Machine.execCrcCompute d n s
  | .crcInsert m n c => Sys2Proof.Machine.execCrcInsert m n c s
  | .crcExtract m n => Sys2Proof.Machine.execCrcExtract m n s
  | .crcSet m n => Sys2Proof.Machine.execCrcSet m n s
  | .crcVerify m n strict => Sys2Proof.Machine.execCrcVerify m n strict s
  | .buildReadStatus => Sys2Proof.Machine.execBuildReadStatus s
  | .buildWriteSingle reg v => Sys2Proof.Machine.execBuildWriteSingle reg v s
  | .buildWriteMultiple start count vals => Sys2Proof.Machine.execBuildWriteMultiple start count vals s
  | .decodeStatusBank r => Sys2Proof.Machine.execDecodeStatusBank r s
  | .wireReadStatus addr crc => Sys2Proof.Machine.execWireReadStatus addr crc s
  | .wireWriteSingle addr reg v crc => Sys2Proof.Machine.execWireWriteSingle addr reg v crc s
  | .wireWriteMultiple addr start vals crc => Sys2Proof.Machine.execWireWriteMultiple addr start vals crc s

end Sys2Proof.Machine
end

