-- ==== Sys2Proof/Machine/Phases.lean ====
section
/-! DEFINITION. The phase machine, one edge at a time (42_sequencer.md R111): the same operations as the meanings,
driven by REQ. R111 lets a model fuse the phases; `exec` does, and this is the unfused reading. -/

namespace Sys2Proof.Machine

/-- What the sequencer does for an operation: an effect done in CHECK, or the phases of a frame. -/
inductive Course where
  | localEffect (effect : State → State)
  | frame (op : FrameOp)

/-- The course of a host operation (R83, R111); a wire command is no request. -/
def courseOf : Instr → Option Course
  | .openPort port baud => some (.localEffect (openPortOp port baud))
  | .closePort => some (.localEffect closePortOp)
  | .flushPort => some (.localEffect flushPortOp)
  | .csrRead idx => some (.localEffect (csrReadOp idx))
  | .csrWrite idx v => some (.localEffect (csrWriteOp idx v))
  | .setCurrent v => some (.frame (setCurrentOp v))
  | .setPower v => some (.frame (setPowerOp v))
  | .setResistance v => some (.frame (setResistanceOp v))
  | .setMode m => some (.frame (setModeOp m))
  | .setLoadSwitch v => some (.frame (setLoadSwitchOp v))
  | .writeRegister reg v => some (.frame (writeRegisterOp reg v))
  | .writeRegisters start count vals => some (.frame (writeRegistersOp start count vals))
  | .getStatus => some (.frame getStatusOp)
  | .getCurrent => some (.frame getCurrentOp)
  | .getVoltage => some (.frame getVoltageOp)
  | .getMode => some (.frame getModeOp)
  | .getSwitch => some (.frame getSwitchOp)
  | .crcCompute d n => some (.localEffect (crcComputeOp d n))
  | .crcInsert m n c => some (.localEffect (crcInsertOp m n c))
  | .crcExtract m n => some (.localEffect (crcExtractOp m n))
  | .crcSet m n => some (.localEffect (crcSetOp m n))
  | .crcVerify m n strict => some (.localEffect (crcVerifyOp m n strict))
  | .buildReadStatus => some (.localEffect buildReadStatusOp)
  | .buildWriteSingle reg v => some (.localEffect (buildWriteSingleOp reg v))
  | .buildWriteMultiple start count vals => some (.localEffect (buildWriteMultipleOp start count vals))
  | .decodeStatusBank r => some (.localEffect (decodeStatusBankOp r))
  | .wireReadStatus _ _ | .wireWriteSingle _ _ _ _ | .wireWriteMultiple _ _ _ _ => none

/-- The course of a latched request; none for a reserved opcode (R85). -/
def courseOfRequest (r : Request) : Option Course :=
  match decodeRequest r with
  | .ok i => courseOf i
  | .error _ => none

/-- The frame operation in REQ. -/
def frameOpIn (s : State) : Option FrameOp :=
  match s.req with
  | none => none
  | some q =>
    match courseOfRequest q.request with
    | some (.frame op) => some op
    | _ => none

/-- The edge out of CHECK (R111): a reserved opcode raises (R85), a local effect is done, a frame operation is
checked (R114). -/
def checkEdge (s : State) : Host.Outcome State Fault Refusal :=
  match s.req with
  | none => .fault .noOperation
  | some q =>
    match courseOfRequest q.request with
    | none => .next (raise .badOpcode s)
    | some (.localEffect effect) => .next (effect s)
    | some (.frame op) => .next (checkFrameOp op.paramsOk s)

/-- The edge out of a frame phase, BUILD to DECODE (R111). -/
def frameEdge (op : FrameOp) (s : State) : State :=
  match s.phase with
  | .build => buildTx (op.layout (reqAddr s)) s
  | .seal => sealTx (op.layout (reqAddr s)).length s
  | .tx => transmit (op.layout (reqAddr s)).length s
  | .wait => turnaround s
  | .rx => receive op.cmd s
  | .verify => verifyResponse op.cmd s
  | .decode => decodeUpdate op.value s
  | .idle | .check | .done => s

/-- One phase edge (R111). IDLE has none of its own: it waits for acceptance. -/
def phaseEdge (s : State) : Host.Outcome State Fault Refusal :=
  match s.phase with
  | .idle => .next s
  | .check => checkEdge s
  | .build | .seal | .tx | .wait | .rx | .verify | .decode =>
    match frameOpIn s with
    | some op => .next (frameEdge op s)
    | none => .fault .noOperation
  | .done => .next (finish s)

/-- At most k phase edges. -/
def phaseRun : Nat → State → Host.Outcome State Fault Refusal
  | 0, s => .next s
  | k + 1, s =>
    match phaseEdge s with
    | .next s' => phaseRun k s'
    | .fault r => .fault r
    | .refused r => .refused r

end Sys2Proof.Machine
end

