-- ==== Sys2Proof/Machine/Fetch.lean ====
section
/-! DEFINITION. What the block runs next. MBCORE runs no program (10_state.md R22): it runs the request the host
presents while it is ready (R36, R112), and in phase TX the frame in TXBUF (R115). -/

namespace Sys2Proof.Machine

/-- A request with a reserved opcode, from acceptance to return (30_encoding.md R85). -/
def rejectOpcode (r : Request) (s : State) : State := runLocalOp r (raise .badOpcode) s

/-- A request accepted and run as one transition (R21, R111, R112). -/
def runRequest (r : Request) (s : State) : Host.Outcome State Fault Refusal :=
  match decode (.host r) with
  | .ok i => exec i s
  | .error _ => .next (rejectOpcode r s)

/-- The frame in TXBUF, of the length its header tells (R78). -/
def fetchFrame (s : State) : Option Bytes :=
  match frameLength (memReadBytes s.txbuf 0 6) with
  | some n => some (memReadBytes s.txbuf 0 n)
  | none => none

/-- The wire command in TXBUF carried out to the end of the operation (R111, R115). -/
def runFrame (s : State) : Host.Outcome State Fault Refusal :=
  match fetchFrame s with
  | none => .fault .noFrame
  | some f =>
    match decode (.wire f) with
    | .ok i => exec i s
    | .error _ => .fault .noFrame

/-- What the block does when neither reset nor a single elapsed edge is next: in IDLE it accepts the next request
or waits (R112, R151), in TX it carries out the frame, in any other phase it takes the phase's edge; a request
presented while it is busy waits (R36, R112, D41). -/
def proceed (s : State) : Host.Outcome State Fault Refusal :=
  match s.phase with
  | .idle =>
    match s.inbox with
    | .request r :: rest => runRequest r { s with inbox := rest }
    | .accept r :: rest => .next (accept r { s with inbox := rest })
    | _ => .next s
  | .tx => runFrame s
  | .check | .build | .seal | .wait | .rx | .verify | .decode | .done => phaseEdge s

/-- Whether an event of the inbox is a presented request. -/
def isPresented : HostEvent → Bool
  | .request _ | .accept _ => true
  | .elapse | .reset => false

/-- An encoding stored where the next step fetches it (log entry 10): a host operation presented first to the ready
block, a wire command in TXBUF with the sequencer in TX. -/
def placeEncoding (e : Encoding) (s : State) : State :=
  match e with
  | .host r => { s with inbox := .request r :: s.inbox, phase := .idle, req := none }
  | .wire f =>
    { s with
      inbox := s.inbox.dropWhile fun e => !isPresented e
      txbuf := memWriteBytes s.txbuf 0 f
      phase := .tx }

end Sys2Proof.Machine
end

