-- ==== Sys2Proof/Machine/Step.lean ====
section
/-! DEFINITION. One step of the machine, and where the next step's instruction is placed. -/

namespace Sys2Proof.Machine

/-- One step: reset whenever it is next (R150, R152), one phase edge when one elapses, else `proceed`. -/
def step (s : State) : Host.Outcome State Fault Refusal :=
  match s.inbox with
  | .reset :: rest => .next (blockReset { s with inbox := rest })
  | .elapse :: rest => phaseEdge { s with inbox := rest }
  | _ => proceed s

/-- s with the instruction whose bits are w stored where the next step fetches it (log entry 10). -/
def State.withFetchWord (s : State) (nbits w : Nat) : State := placeEncoding (encodingOfWord nbits w) s

end Sys2Proof.Machine
end

