-- ==== Sys2Proof/Safety.lean ====
section
/-! DEFINITION. The vocabulary of the statements: results, what a completed operation leaves, which operations issue
which frame, and the invariant of the machine. -/

namespace Sys2Proof.Machine

/-! ### Results and completed operations -/

/-- The result of an operation that raised nothing (R84, R118). -/
def okResult (value : Word) (data : Bytes) (warn : Bool) : Result :=
  { err := 0#3, reason := 0#8, warn := warn, value := value, data := data }

/-- The result of an operation that raised e (R137). -/
def errorResult (e : OpError) (warn : Bool) : Result :=
  { err := errCode e, reason := reasonCode e, warn := warn, value := 0#32, data := [] }

/-- s after a completion that returns r, LAST_RESULT left as it was: CSR_READ (R118, R134). -/
def returnedIn (s : State) (r : Result) : State :=
  { s with phase := .idle, req := none, res := r, returned := s.returned ++ [r] }

/-- s after a completion that returns r and copies it to LAST_RESULT (R118). -/
def completed (s : State) (r : Result) : State :=
  { returnedIn s r with lastResult := { err := r.err, warn := r.warn, reason := r.reason } }

/-! ### Frame-issuing operations (R83) -/

/-- Whether an operation is frame-issuing (R83): opcodes 0x10 to 0x16 and 0x20 to 0x24. -/
def frameIssuing (i : Instr) : Bool :=
  let opc := (requestOf i).opc.toNat
  (decide (0x10 ≤ opc) && decide (opc ≤ 0x16)) || (decide (0x20 ≤ opc) && decide (opc ≤ 0x24))

/-- Whether an operation reads the status bank (R119 to R123): opcodes 0x20 to 0x24. -/
def readsStatus (i : Instr) : Bool :=
  decide (0x20 ≤ (requestOf i).opc.toNat) && decide ((requestOf i).opc.toNat ≤ 0x24)

/-- Which frame an operation with admitted operands sends, for the address and the swap of its acceptance, and under
which wire command (R91, R119 to R130). -/
inductive Issues : Instr → WireCmd → (Byte → Bool → Bytes) → Prop where
  | setCurrent (v : Word) : Issues (.setCurrent v) .writeSingle fun a sw => writeSingleFrame a 0x0116#16 v sw
  | setPower (v : Word) : Issues (.setPower v) .writeSingle fun a sw => writeSingleFrame a 0x011E#16 v sw
  | setResistance (v : Word) : Issues (.setResistance v) .writeSingle fun a sw => writeSingleFrame a 0x011A#16 v sw
  | setMode (m : Word) (h : m.toNat ≤ 3) : Issues (.setMode m) .writeSingle fun a sw => writeSingleFrame a 0x0110#16 m sw
  | setLoadSwitch (v : Word) (h : v.toNat ≤ 1) :
    Issues (.setLoadSwitch v) .writeSingle fun a sw => writeSingleFrame a 0x010E#16 v sw
  | writeRegister (reg : Half) (v : Word) :
    Issues (.writeRegister reg v) .writeSingle fun a sw => writeSingleFrame a reg v sw
  | writeRegisters (start count : Half) (vals : List Word) (h1 : 1 ≤ count.toNat) (h2 : count.toNat ≤ 63)
      (h3 : vals.length = count.toNat) :
    Issues (.writeRegisters start count vals) .writeMultiple fun a sw => writeMultipleFrame a start count vals sw
  | getStatus : Issues .getStatus .readRegisters fun a sw => readStatusFrame a sw
  | getCurrent : Issues .getCurrent .readRegisters fun a sw => readStatusFrame a sw
  | getVoltage : Issues .getVoltage .readRegisters fun a sw => readStatusFrame a sw
  | getMode : Issues .getMode .readRegisters fun a sw => readStatusFrame a sw
  | getSwitch : Issues .getSwitch .readRegisters fun a sw => readStatusFrame a sw

/-- The result value of a status-bank operation for a decoded response (R119 to R123). -/
inductive Returns : Instr → (StatusFields → Word) → Prop where
  | getStatus : Returns .getStatus fun _ => 0#32
  | getCurrent : Returns .getCurrent fun d => d.current.setWidth 32
  | getVoltage : Returns .getVoltage fun d => d.voltage.setWidth 32
  | getMode : Returns .getMode fun d => d.mode.setWidth 32
  | getSwitch : Returns .getSwitch fun d => d.switch.setWidth 32

/-- A wire command and the command of its frame (R77). -/
inductive Carries : Instr → WireCmd → Prop where
  | readStatus (a : Byte) (c : Half) : Carries (.wireReadStatus a c) .readRegisters
  | writeSingle (a : Byte) (reg : Half) (v : Word) (c : Half) : Carries (.wireWriteSingle a reg v c) .writeSingle
  | writeMultiple (a : Byte) (start : Half) (vals : List Word) (c : Half) (h1 : 1 ≤ vals.length)
      (h2 : vals.length ≤ 63) : Carries (.wireWriteMultiple a start vals c) .writeMultiple

/-! ### What an exchange leaves (R53, R115) -/

/-- Buffer m' holds the bytes f from index 0, and every other byte of m. -/
def holds (m' : Memory) (f : Bytes) (m : Memory) : Prop :=
  memReadBytes m' 0 f.length = f ∧ ∀ a, f.length ≤ a → memRead m' a = memRead m a

/-- s after a T_WRITE of f that answered false. -/
def writeRefused (s : State) (f : Bytes) (tb : Memory) : State :=
  { s with txbuf := tb, feed := afterOk s.feed, history := s.history ++ [.write f false] }

/-- s after a T_WRITE of f that answered true, the T_WAIT and a T_READ for cmd, whatever it answered. -/
def exchanged (s : State) (cmd : WireCmd) (f : Bytes) (tb rb : Memory) : State :=
  { s with
    feed := afterRead (respLen cmd) (afterOk s.feed)
    txbuf := tb
    rxbuf := rb
    timer := .stopped
    history :=
      s.history ++
        [.write f true, .wait s.params.turnaround, .read (respLen cmd) (feedRead (respLen cmd) (afterOk s.feed))] }

/-- s with the device-state registers of a decoded response (R117). -/
def withDevice (s : State) (d : StatusFields) : State :=
  { s with devSwitch := d.switch, devMode := d.mode, devVoltage := d.voltage, devCurrent := d.current, valid := true }

/-- The state from which a frame-issuing operation is admitted: an address, an open link (R114), and buffers in
canonical form. -/
structure Admits (s : State) : Prop where
  addr : s.addr ≠ 0#8
  link : s.link = .opened
  txbuf : s.txbuf.wf maxFrame = true
  rxbuf : s.rxbuf.wf statusLen = true

/-- What a CSR_READ of register i returns, as a number: the fields of the register at their places, every reserved bit
0 (R23 to R33, R37). -/
def registerReads (s : State) (i : Half) (v : Word) : Prop :=
  (i = 0x0000#16 → v.toNat = s.strict.toNat + 2 * s.crcSwap.toNat) ∧
  (i = 0x0001#16 → v.toNat = s.addr.toNat) ∧
  (i = 0x0002#16 → v.toNat = (if s.link = .opened then 1 else 0) + 2 * s.valid.toNat) ∧
  (i = 0x0003#16 →
    v.toNat = s.lastResult.err.toNat + 8 * s.lastResult.warn.toNat + 256 * s.lastResult.reason.toNat) ∧
  (i = 0x0004#16 → v.toNat = s.devSwitch.toNat) ∧
  (i = 0x0005#16 → v.toNat = s.devMode.toNat) ∧
  (i = 0x0006#16 → v.toNat = s.devVoltage.toNat) ∧
  (i = 0x0007#16 → v.toNat = s.devCurrent.toNat) ∧
  (i = 0x0008#16 → v.toNat = s.params.modeMask.toNat + 256 * s.params.offV.toNat + 65536 * s.params.offI.toNat)

/-- The reserved host opcodes (R85). -/
def reservedOpcode (opc : Byte) : Bool :=
  let n := opc.toNat
  decide (n = 0) || (decide (0x06 ≤ n) && decide (n ≤ 0x0F)) || (decide (0x17 ≤ n) && decide (n ≤ 0x1F)) ||
    (decide (0x25 ≤ n) && decide (n ≤ 0x2F)) || (decide (0x35 ≤ n) && decide (n ≤ 0x37)) || decide (0x3C ≤ n)

/-- Whether two requests agree on every field their opcode reads (R81, R82). -/
structure SameRead (r q : Request) : Prop where
  opc : q.opc = r.opc
  a16 : r.opc.toNat ∈ [0x04, 0x05, 0x15, 0x16, 0x30, 0x31, 0x32, 0x33, 0x34, 0x39, 0x3A] → q.a16 = r.a16
  v32 : r.opc.toNat ∈ [0x01, 0x05, 0x10, 0x11, 0x12, 0x13, 0x14, 0x15, 0x39] → q.v32 = r.v32
  low : r.opc.toNat ∈ [0x16, 0x31, 0x3A] → q.v32.extractLsb' 0 16 = r.v32.extractLsb' 0 16
  bit : r.opc.toNat = 0x34 → q.v32.getLsbD 0 = r.v32.getLsbD 0
  vals : r.opc.toNat ∈ [0x16, 0x3A] → q.vals = r.vals
  data : r.opc.toNat ∈ [0x01, 0x30, 0x31, 0x32, 0x33, 0x34, 0x3B] → q.data = r.data

/-! ### The invariant -/

/-- The (err, reason) pairs of R136; no other is ever produced. -/
def legalCode (err : BitVec 3) (reason : BitVec 8) : Bool :=
  (err == 0#3 && reason == 0#8) ||
  (err == 1#3 && decide (1 ≤ reason.toNat) && decide (reason.toNat ≤ 6)) ||
  (err == 2#3 && decide (1 ≤ reason.toNat) && decide (reason.toNat ≤ 4)) ||
  (err == 3#3 && reason == 1#8) ||
  (err == 4#3 && decide (1 ≤ reason.toNat) && decide (reason.toNat ≤ 2))

/-- What every recorded event satisfies: a written frame is a well-formed wire command (R28, R70, R77), an Ok answer
has the length asked for and that length is a response's (R50, R78), and a port is opened 8N1 (R61). -/
def eventOk : Event → Prop
  | .openPort _ _ format _ => format = { dataBits := 8, parity := .none, stopBits := 1 }
  | .write f _ => ∃ i, decodeFrame f = .ok i ∧ i.wf = true
  | .wait _ => True
  | .read n a => (n = 23 ∨ n = 9 ∨ n = 8) ∧ ∀ r, a = .ok r → r.length = n
  | .flush => True
  | .close => True

/-- The phases between a passed check and the end of a frame-issuing operation (R111). -/
def inFrame : Phase → Bool
  | .build | .seal | .tx | .wait | .rx | .verify | .decode => true
  | .idle | .check | .done => false

/-- The invariant of the machine. -/
structure Inv (s : State) : Prop where
  /-- The parameters are in their ranges (R9, R10). -/
  params : s.params.wf = true
  /-- TXBUF is in canonical form (R38). -/
  txbuf : s.txbuf.wf maxFrame = true
  /-- RXBUF is in canonical form (R38). -/
  rxbuf : s.rxbuf.wf statusLen = true
  /-- REQ is empty exactly when no operation is in progress (R34, R36). -/
  req : s.req = none ↔ s.phase = .idle
  /-- The timer runs only in phase WAIT (R39). -/
  timer : s.timer = .running ↔ s.phase = .wait
  /-- RES holds a legal pair (R136). -/
  res : legalCode s.res.err s.res.reason = true
  /-- LAST_RESULT holds a legal pair (R30, R136). -/
  last : legalCode s.lastResult.err s.lastResult.reason = true
  /-- Every result returned held a legal pair (R136). -/
  returned : ∀ r ∈ s.returned, legalCode r.err r.reason = true
  /-- DEV_MODE holds no bit outside the mask (R32, R106). -/
  mode : s.devMode &&& s.params.modeMask = s.devMode
  /-- While VALID is 0 the device-state registers hold their reset values (R29). -/
  unread : s.valid = false → s.devSwitch = 0#1 ∧ s.devMode = 0#3 ∧ s.devVoltage = 0#24 ∧ s.devCurrent = 0#24
  /-- Every event of the history is one the block may issue (R28, R50, R61, R70, R77). -/
  history : ∀ e ∈ s.history, eventOk e
  /-- A frame is under way only for an admitted frame operation with an address and an open link (R114). -/
  busy : inFrame s.phase = true →
    ∃ op, frameOpIn s = some op ∧ op.paramsOk = true ∧ reqAddr s ≠ 0#8 ∧ s.link = .opened
  /-- In SEAL, TXBUF holds the layout of the operation in REQ (R104, R115). -/
  sealing : s.phase = .seal → ∀ op, frameOpIn s = some op →
    memReadBytes s.txbuf 0 (op.layout (reqAddr s)).length = op.layout (reqAddr s)
  /-- In TX, TXBUF holds its sealed frame (R104, R115). -/
  sending : s.phase = .tx → ∀ op, frameOpIn s = some op →
    memReadBytes s.txbuf 0 (op.layout (reqAddr s)).length = sealFrame (op.layout (reqAddr s)) (reqSwap s)

end Sys2Proof.Machine
end

