-- ==== Sys2Proof/Certificates/Slice0/Obligations.lean ====
section
/-! DEFINITION. The statements about MBCORE for the provers. Each docstring cites the rules of spec/ it formalises or
rests on. Conventions of the model that many of them meet: a completion leaves REQ empty (log entry 8) and adds its
result to the record `returned` (log entry 7); the transport's answers are those of the feed (log entry 3); a byte of
a buffer that holds 0 has no cell (log entry 1); an event enters the history on the edge that ends it (log
entry 14). -/

open Sys2Proof Sys2Proof.Machine

/-! ### Stepping -/

/-- A presented request is accepted by the idle block and run as its decoded operation (R21, R112); in phase TX the
frame in TXBUF is carried out as its decoded wire command (R115). Nothing else is added around `exec`: the event is
taken off the inbox. -/
def Obligations.StepRunsTheDecodedOperation : Prop :=
  (∀ (s : State) (r : Request) (rest : List HostEvent) (i : Instr),
    s.phase = .idle → s.inbox = .request r :: rest → decode (.host r) = .ok i →
    step s = exec i { s with inbox := rest }) ∧
  (∀ (s : State) (f : Bytes) (i : Instr),
    s.phase = .tx → (∀ e rest, s.inbox = e :: rest → isPresented e = true) →
    fetchFrame s = some f → decode (.wire f) = .ok i → i.wf = true → step s = exec i s)

/-- R85: a request with a reserved opcode completes at once with BAD_OPCODE; its only effects are its result and the
LAST_RESULT update. -/
def Obligations.ReservedOpcodeCompletesAtOnce : Prop :=
  ∀ (s : State) (r : Request) (rest : List HostEvent),
    s.phase = .idle → s.inbox = .request r :: rest → reservedOpcode r.opc = true →
    step s = .next (completed { s with inbox := rest } (errorResult .badOpcode false))

/-- R36, R112, D41: a request presented while the block is busy is not accepted; it stays first in the inbox. -/
def Obligations.BusyBlockHoldsTheRequest : Prop :=
  ∀ (s t : State) (e : HostEvent) (rest : List HostEvent),
    s.phase ≠ .idle → isPresented e = true → s.inbox = e :: rest → step s = .next t → t.inbox = e :: rest

/-- R150 to R152: reset, in whatever phase, puts every piece of the block's state with a specified reset value at it;
it returns no result and leaves the event history, the pending requests and the transport's answers alone. The block
then waits in IDLE. -/
def Obligations.ResetRestoresTheBlock : Prop :=
  ∀ (s : State) (rest : List HostEvent), s.inbox = .reset :: rest →
    ∃ t, step s = .next t ∧
      t.strict = s.params.strictReset ∧ t.crcSwap = s.params.crcSwapReset ∧ t.addr = 0#8 ∧ t.link = .closed ∧
      t.valid = false ∧ t.lastResult = { err := 0#3, warn := false, reason := 0#8 } ∧
      t.devSwitch = 0#1 ∧ t.devMode = 0#3 ∧ t.devVoltage = 0#24 ∧ t.devCurrent = 0#24 ∧
      t.phase = .idle ∧ t.req = none ∧ t.timer = .stopped ∧ t.params = s.params ∧
      t.history = s.history ∧ t.returned = s.returned ∧ t.inbox = rest ∧ t.feed = s.feed ∧
      (rest = [] → step t = .next t)

/-- R112, R113: the idle block accepts the presented request: REQ takes it with the configuration of that moment, the
phase becomes CHECK, and nothing but RES (log entry 8) changes beside. -/
def Obligations.AcceptanceSamplesTheConfiguration : Prop :=
  ∀ (s : State) (r : Request) (rest : List HostEvent), s.phase = .idle → s.inbox = .accept r :: rest →
    ∃ res, step s = .next
      { s with
        inbox := rest
        phase := .check
        req := some { request := r, strict := s.strict, swap := s.crcSwap, addr := s.addr }
        res := res }

/-- R111: the phase moves only along the edges of the phase machine. -/
def Obligations.PhaseMovesAlongTheEdges : Prop :=
  ∀ s t : State, phaseEdge s = .next t →
    (s.phase, t.phase) ∈
      [(Phase.idle, Phase.idle), (.check, .done), (.check, .build), (.build, .seal), (.seal, .tx), (.tx, .done),
        (.tx, .wait), (.wait, .rx), (.rx, .done), (.rx, .verify), (.verify, .done), (.verify, .decode),
        (.decode, .done), (.done, .idle)]

/-- R111: the phase edges from acceptance, one at a time, end in the state of the fused operation. Where a request's
unread fields are set, the two end in equal states because a completion leaves REQ empty (log entry 8). The reserved
opcodes are spoken of by ReservedOpcodeFailsEdgeByEdge. -/
def Obligations.PhasesComposeToTheOperation : Prop :=
  ∀ (s : State) (r : Request) (i : Instr), decode (.host r) = .ok i → phaseRun 9 (accept r s) = exec i s

/-! ### Encodings -/

/-- R71, R72, R73, R82: words written out from the encoding tables decode to what they stand for. -/
def Obligations.TableWordsDecode : Prop :=
  decodeTableWord 8 0x01 = some (.openPort [] 0#32) ∧
  decodeTableWord 8 0x05 = some (.csrWrite 0#16 0#32) ∧
  decodeTableWord 8 0x13 = some (.setMode 0#32) ∧
  decodeTableWord 8 0x24 = some .getSwitch ∧
  decodeTableWord 8 0x34 = some (.crcVerify [] 0#16 false) ∧
  decodeTableWord 8 0x3A = some (.buildWriteMultiple 0#16 0#16 []) ∧
  decodeTableWord 8 0x06 = none ∧
  decodeFrame [0x01#8, 0x03#8, 0x03#8, 0x00#8, 0x00#8, 0x00#8, 0x8E#8, 0x45#8] =
    .ok (.wireReadStatus 0x01#8 0x8E45#16)

/-- R70 to R73, R81, R82: decoding the encoding of a well-formed operation gives it back, with every operand. -/
def Obligations.DecodeEncodeAgree : Prop := ∀ i : Instr, i.wf = true → decode (encode i) = .ok i

/-- R71 to R73, R78: a frame that decodes is the encoding of what it decodes to; no bit of it is dropped. -/
def Obligations.FrameHasOneReading : Prop :=
  ∀ (f : Bytes) (i : Instr), decodeFrame f = .ok i → encode i = .wire f

/-- R81, R82: a field an opcode does not read is ignored. -/
def Obligations.UnreadFieldsAreIgnored : Prop :=
  ∀ r q : Request, SameRead r q → decodeRequest q = decodeRequest r

/-- R71, R72, R73, R101 to R103: the built frames, byte by byte, and their lengths. -/
def Obligations.BuiltFramesHaveTheirFormats : Prop :=
  (∀ (a : Byte) (sw : Bool),
    readStatusFrame a sw =
      [a, 0x03#8, 0x03#8, 0x00#8, 0x00#8, 0x00#8] ++
        be16 (crcOf [a, 0x03#8, 0x03#8, 0x00#8, 0x00#8, 0x00#8] 6 sw)) ∧
  (∀ (a : Byte) (reg : Half) (v : Word) (sw : Bool),
    ∃ body, body = [a, 0x06#8, hiByte reg, loByte reg, 0x00#8, 0x01#8, 0x04#8, v.extractLsb' 24 8,
        v.extractLsb' 16 8, v.extractLsb' 8 8, v.extractLsb' 0 8] ∧
      writeSingleFrame a reg v sw = body ++ be16 (crcOf body 11 sw)) ∧
  (∀ (a : Byte) (start count : Half) (vals : List Word) (sw : Bool),
    1 ≤ count.toNat → count.toNat ≤ 63 → vals.length = count.toNat →
    (writeMultipleFrame a start count vals sw).length = 9 + 4 * count.toNat ∧
    ∃ c, crcOf (writeMultipleFrame a start count vals sw) (7 + 4 * count.toNat) sw = c ∧
      encode (.wireWriteMultiple a start vals c) = .wire (writeMultipleFrame a start count vals sw))

/-! ### Register access -/

/-- R134: CSR_READ returns the register's fields, reserved bits 0, and writes nothing, LAST_RESULT neither; a
reserved index fails with BAD_CSR; the DEV registers read 0 while VALID is 0; CTRL and CFG_ID after reset. -/
def Obligations.CsrReadReturnsTheRegister : Prop :=
  (∀ (s : State) (i : Half), i.toNat ≤ 8 →
    ∃ v, registerReads s i v ∧ exec (.csrRead i) s = .next (returnedIn s (okResult v [] false))) ∧
  (∀ (s : State) (i : Half), 8 < i.toNat →
    exec (.csrRead i) s = .next (returnedIn s (errorResult .badCsr false))) ∧
  (∀ (s : State) (i : Half), Inv s → s.valid = false → 4 ≤ i.toNat → i.toNat ≤ 7 →
    exec (.csrRead i) s = .next (returnedIn s (okResult 0#32 [] false))) ∧
  exec (.csrRead 0x0000#16) State.reset = .next (returnedIn State.reset (okResult 0x00000001#32 [] false)) ∧
  exec (.csrRead 0x0008#16) State.reset = .next (returnedIn State.reset (okResult 0x00080503#32 [] false))

/-- R135: CSR_WRITE stores the defined fields of CTRL or ADDR, in every link state and whatever ADDR holds; every
other index fails with BAD_CSR and changes nothing but the result. -/
def Obligations.CsrWriteStoresTheDefinedFields : Prop :=
  (∀ (s : State) (v : Word),
    exec (.csrWrite 0x0000#16 v) s =
      .next (completed { s with strict := v.getLsbD 0, crcSwap := v.getLsbD 1 } (okResult 0#32 [] false))) ∧
  (∀ (s : State) (v : Word),
    exec (.csrWrite 0x0001#16 v) s =
      .next (completed { s with addr := v.extractLsb' 0 8 } (okResult 0#32 [] false))) ∧
  (∀ (s : State) (i : Half) (v : Word), 2 ≤ i.toNat →
    exec (.csrWrite i v) s = .next (completed s (errorResult .badCsr false)))

/-- R24, R40, R57: CTRL, ADDR and the build parameters are written by CSR_WRITE alone. -/
def Obligations.OnlyCsrWriteConfigures : Prop :=
  ∀ (i : Instr) (s t : State), (∀ idx v, i ≠ .csrWrite idx v) → exec i s = .next t →
    t.strict = s.strict ∧ t.crcSwap = s.crcSwap ∧ t.addr = s.addr ∧ t.params = s.params

/-- R24, K3, K4: what CSR_WRITE stored reads back, the reserved bits as 0. -/
def Obligations.CsrWriteThenRead : Prop :=
  ∀ (s : State) (v : Word),
    (∃ t, exec (.csrWrite 0x0000#16 v) s = .next t ∧
      exec (.csrRead 0x0000#16) t = .next (returnedIn t (okResult (v &&& 0x00000003#32) [] false))) ∧
    (∃ t, exec (.csrWrite 0x0001#16 v) s = .next t ∧
      exec (.csrRead 0x0001#16) t = .next (returnedIn t (okResult (v &&& 0x000000FF#32) [] false)))

/-! ### Link operations -/

/-- R131: OPEN on a closed link asks the transport, 8N1, and opens the link exactly on its ok; on an open link it
fails with no event. ADDR is not checked. -/
def Obligations.OpenBindsTheTransport : Prop :=
  ∀ (s : State) (port : Bytes) (baud : Word),
    (s.link = .opened → exec (.openPort port baud) s = .next (completed s (errorResult .alreadyOpen false))) ∧
    (s.link = .closed → feedOk s.feed = true →
      exec (.openPort port baud) s =
        .next (completed
          { s with
            link := .opened
            feed := afterOk s.feed
            history := s.history ++ [.openPort port baud { dataBits := 8, parity := .none, stopBits := 1 } true] }
          (okResult 0#32 [] false))) ∧
    (s.link = .closed → feedOk s.feed = false →
      exec (.openPort port baud) s =
        .next (completed
          { s with
            feed := afterOk s.feed
            history := s.history ++ [.openPort port baud { dataBits := 8, parity := .none, stopBits := 1 } false] }
          (errorResult .openFail false)))

/-- R132: CLOSE closes an open link with one T_CLOSE; on a closed link it is OK and does nothing. -/
def Obligations.CloseUnbindsTheTransport : Prop :=
  ∀ s : State,
    (s.link = .opened →
      exec .closePort s =
        .next (completed { s with link := .closed, history := s.history ++ [.close] } (okResult 0#32 [] false))) ∧
    (s.link = .closed → exec .closePort s = .next (completed s (okResult 0#32 [] false)))

/-- R133: FLUSH issues T_FLUSH on an open link and fails with NOT_OPEN on a closed one. -/
def Obligations.FlushNeedsAnOpenLink : Prop :=
  ∀ s : State,
    (s.link = .opened →
      exec .flushPort s =
        .next (completed { s with history := s.history ++ [.flush] } (okResult 0#32 [] false))) ∧
    (s.link = .closed → exec .flushPort s = .next (completed s (errorResult .notOpen false)))

/-- R35: no operation but OPEN and CLOSE changes the link. -/
def Obligations.OnlyOpenAndCloseChangeTheLink : Prop :=
  ∀ (i : Instr) (s t : State), (∀ port baud, i ≠ .openPort port baud) → i ≠ .closePort → exec i s = .next t →
    t.link = s.link

/-! ### Frame-issuing operations -/

/-- R114: the checks of a frame-issuing operation, in their order; each failure changes nothing but the result. -/
def Obligations.FrameChecksComeFirstAndInOrder : Prop :=
  ∀ (i : Instr) (s : State), frameIssuing i = true →
    (s.addr = 0#8 → exec i s = .next (completed s (errorResult .addrZero false))) ∧
    (s.addr ≠ 0#8 → s.link = .closed → exec i s = .next (completed s (errorResult .notOpen false))) ∧
    (s.addr ≠ 0#8 → s.link = .opened → (∀ cmd f, ¬ Issues i cmd f) →
      exec i s = .next (completed s (errorResult .badParam false)))

/-- R62, R115: a T_WRITE answered false ends the operation with WRITE_FAIL; no wait and no read follow. -/
def Obligations.RefusedWriteAborts : Prop :=
  ∀ (i : Instr) (cmd : WireCmd) (f : Byte → Bool → Bytes) (s : State),
    Issues i cmd f → Admits s → feedOk s.feed = false →
    ∃ tb, holds tb (f s.addr s.crcSwap) s.txbuf ∧
      exec i s = .next (completed (writeRefused s (f s.addr s.crcSwap) tb) (errorResult .writeFail false))

/-- R64, R115, R136: a failed T_READ ends the operation with the error of its cause. -/
def Obligations.FailedReadAborts : Prop :=
  ∀ (i : Instr) (cmd : WireCmd) (f : Byte → Bool → Bytes) (s : State) (why : ReadFail),
    Issues i cmd f → Admits s → feedOk s.feed = true → feedRead (respLen cmd) (afterOk s.feed) = .fail why →
    ∃ tb, holds tb (f s.addr s.crcSwap) s.txbuf ∧
      exec i s =
        .next (completed (exchanged s cmd (f s.addr s.crcSwap) tb s.rxbuf)
          (errorResult
            (match why with | .timeout => .readTimeout | .io => .readIo | .short => .shortResponse) false))

/-- R116, R141: in strict mode a response whose checksum does not verify ends the operation with CRC_MISMATCH; no
decoded data is stored or returned. -/
def Obligations.StrictMismatchAborts : Prop :=
  ∀ (i : Instr) (cmd : WireCmd) (f : Byte → Bool → Bytes) (s : State) (r : Bytes),
    Issues i cmd f → Admits s → feedOk s.feed = true → feedRead (respLen cmd) (afterOk s.feed) = .ok r →
    crcMatches r (respLen cmd) s.crcSwap = false → s.strict = true →
    ∃ tb rb, holds tb (f s.addr s.crcSwap) s.txbuf ∧ holds rb r s.rxbuf ∧
      exec i s =
        .next (completed (exchanged s cmd (f s.addr s.crcSwap) tb rb) (errorResult .crcMismatch false))

/-- R124 to R130, R116: SET_CURRENT, SET_POWER, SET_RESISTANCE, SET_MODE, SET_LOAD_SWITCH, WRITE_REGISTER and
WRITE_REGISTERS complete when the acknowledgement verifies, or lenient verification accepts it with warn = 1, and it
is not malformed; the device-state registers are not written. -/
def Obligations.WriteOperationsComplete : Prop :=
  ∀ (i : Instr) (cmd : WireCmd) (f : Byte → Bool → Bytes) (s : State) (r : Bytes),
    Issues i cmd f → cmd ≠ .readRegisters → Admits s → feedOk s.feed = true →
    feedRead (respLen cmd) (afterOk s.feed) = .ok r →
    (crcMatches r (respLen cmd) s.crcSwap = true ∨ s.strict = false) →
    ackMalformed s.params cmd s.addr r = false →
    ∃ tb rb, holds tb (f s.addr s.crcSwap) s.txbuf ∧ holds rb r s.rxbuf ∧
      exec i s =
        .next (completed (exchanged s cmd (f s.addr s.crcSwap) tb rb)
          (okResult 0#32 [] (!crcMatches r (respLen cmd) s.crcSwap)))

/-- R116, R143: a write acknowledgement that the checksum check lets through and that P_ACK_MALFORMED calls malformed
ends the operation with MALFORMED_ACK, warn telling a lenient mismatch. -/
def Obligations.MalformedAckAborts : Prop :=
  ∀ (i : Instr) (cmd : WireCmd) (f : Byte → Bool → Bytes) (s : State) (r : Bytes),
    Issues i cmd f → cmd ≠ .readRegisters → Admits s → feedOk s.feed = true →
    feedRead (respLen cmd) (afterOk s.feed) = .ok r →
    (crcMatches r (respLen cmd) s.crcSwap = true ∨ s.strict = false) →
    ackMalformed s.params cmd s.addr r = true →
    ∃ tb rb, holds tb (f s.addr s.crcSwap) s.txbuf ∧ holds rb r s.rxbuf ∧
      exec i s =
        .next (completed (exchanged s cmd (f s.addr s.crcSwap) tb rb)
          (errorResult .malformedAck (!crcMatches r (respLen cmd) s.crcSwap)))

/-- R117, R119 to R123: GET_STATUS, GET_CURRENT, GET_VOLTAGE, GET_MODE and GET_SWITCH complete when the response
verifies, or lenient verification accepts it with warn = 1: all four device-state fields and VALID are written together
from the response, and the value is the operation's field of it. -/
def Obligations.StatusOperationsComplete : Prop :=
  ∀ (i : Instr) (f : Byte → Bool → Bytes) (value : StatusFields → Word) (s : State) (r : Bytes),
    Issues i .readRegisters f → Returns i value → Admits s → feedOk s.feed = true →
    feedRead 23 (afterOk s.feed) = .ok r →
    (crcMatches r 23 s.crcSwap = true ∨ s.strict = false) →
    ∃ tb rb, holds tb (f s.addr s.crcSwap) s.txbuf ∧ holds rb r s.rxbuf ∧
      exec i s =
        .next (completed
          (withDevice (exchanged s .readRegisters (f s.addr s.crcSwap) tb rb) (decodeStatus s.params r))
          (okResult (value (decodeStatus s.params r)) [] (!crcMatches r 23 s.crcSwap)))

/-- R91: SET_CURRENT, SET_POWER, SET_RESISTANCE and, for admitted operands, SET_MODE and SET_LOAD_SWITCH are
WRITE_REGISTER of their register. -/
def Obligations.SetOperationsAreWriteRegister : Prop :=
  ∀ (s : State) (v : Word),
    exec (.setCurrent v) s = exec (.writeRegister 0x0116#16 v) s ∧
    exec (.setPower v) s = exec (.writeRegister 0x011E#16 v) s ∧
    exec (.setResistance v) s = exec (.writeRegister 0x011A#16 v) s ∧
    (v.toNat ≤ 3 → exec (.setMode v) s = exec (.writeRegister 0x0110#16 v) s) ∧
    (v.toNat ≤ 1 → exec (.setLoadSwitch v) s = exec (.writeRegister 0x010E#16 v) s)

/-- R53: the transport events of a frame-issuing operation are none, a refused write, or a write, the turnaround wait
and one read of the command's response length, in this order. -/
def Obligations.FrameEventsComeInOrder : Prop :=
  ∀ (i : Instr) (s t : State), frameIssuing i = true → exec i s = .next t →
    t.history = s.history ∨
    (∃ f, t.history = s.history ++ [.write f false]) ∨
    (∃ f a n, (n = 23 ∨ n = 9 ∨ n = 8) ∧
      t.history = s.history ++ [.write f true, .wait s.params.turnaround, .read n a])

/-- R31, R58: the device-state registers and VALID change only by a status-bank operation, or by the status-bank frame
it sends. -/
def Obligations.OnlyStatusReadsWriteDeviceState : Prop :=
  ∀ (i : Instr) (s t : State), readsStatus i = false → (∀ a c, i ≠ .wireReadStatus a c) → exec i s = .next t →
    t.devSwitch = s.devSwitch ∧ t.devMode = s.devMode ∧ t.devVoltage = s.devVoltage ∧
      t.devCurrent = s.devCurrent ∧ t.valid = s.valid

/-! ### Checksum services -/

/-- R96: CRC_COMPUTE. -/
def Obligations.CrcComputeReturnsTheCrc : Prop :=
  (∀ (s : State) (d : Bytes) (n : Half), d.length ≤ 261 → n.toNat ≤ d.length →
    exec (.crcCompute d n) s =
      .next (completed s (okResult ((crcOf d n.toNat s.crcSwap).setWidth 32) [] false))) ∧
  (∀ (s : State) (d : Bytes) (n : Half), ¬ (d.length ≤ 261 ∧ n.toNat ≤ d.length) →
    exec (.crcCompute d n) s = .next (completed s (errorResult .badParam false))) ∧
  (∀ (d : Bytes) (sw : Bool), crcOf d 0 sw = 0xFFFF#16) ∧
  (∀ (d e : Bytes) (n : Nat) (sw : Bool), d.take n = e.take n → crcOf d n sw = crcOf e n sw)

/-- R97: CRC_INSERT stores the given crc, unswapped, high byte at n-2 and low byte at n-1, and keeps every other
byte. -/
def Obligations.CrcInsertStoresTheCrc : Prop :=
  (∀ (s : State) (m : Bytes) (n c : Half), m.length ≤ 261 → 2 ≤ n.toNat → n.toNat ≤ m.length →
    ∃ d, exec (.crcInsert m n c) s = .next (completed s (okResult 0#32 d false)) ∧ d.length = m.length ∧
      d[n.toNat - 2]? = some (hiByte c) ∧ d[n.toNat - 1]? = some (loByte c) ∧
      ∀ k, k ≠ n.toNat - 2 → k ≠ n.toNat - 1 → d[k]? = m[k]?) ∧
  (∀ (s : State) (m : Bytes) (n c : Half), ¬ (m.length ≤ 261 ∧ 2 ≤ n.toNat ∧ n.toNat ≤ m.length) →
    exec (.crcInsert m n c) s = .next (completed s (errorResult .badParam false)))

/-- R98: CRC_EXTRACT reads the two bytes back, unswapped; and extract after insert gives the crc. -/
def Obligations.CrcExtractReadsTheTrailer : Prop :=
  (∀ (s : State) (m : Bytes) (n : Half) (hi lo : Byte), m.length ≤ 261 → 2 ≤ n.toNat → n.toNat ≤ m.length →
    m[n.toNat - 2]? = some hi → m[n.toNat - 1]? = some lo →
    ∃ v : Word, v.toNat = 256 * hi.toNat + lo.toNat ∧
      exec (.crcExtract m n) s = .next (completed s (okResult v [] false))) ∧
  (∀ (s : State) (m : Bytes) (n : Half), ¬ (m.length ≤ 261 ∧ 2 ≤ n.toNat ∧ n.toNat ≤ m.length) →
    exec (.crcExtract m n) s = .next (completed s (errorResult .badParam false))) ∧
  (∀ (m : Bytes) (n : Nat) (c : Half), 2 ≤ n → n ≤ m.length → extractCrc (insertCrc m n c) n = c)

/-- R99: CRC_SET seals the message; what stood in the two trailing bytes does not matter. -/
def Obligations.CrcSetSealsTheMessage : Prop :=
  (∀ (s : State) (m : Bytes) (n : Half), m.length ≤ 261 → 2 ≤ n.toNat → n.toNat ≤ m.length →
    exec (.crcSet m n) s =
      .next (completed s
        (okResult 0#32 (insertCrc m n.toNat (crcOf m (n.toNat - 2) s.crcSwap)) false))) ∧
  (∀ (s : State) (m : Bytes) (n : Half), ¬ (m.length ≤ 261 ∧ 2 ≤ n.toNat ∧ n.toNat ≤ m.length) →
    exec (.crcSet m n) s = .next (completed s (errorResult .badParam false))) ∧
  (∀ (m : Bytes) (n : Nat) (c : Half) (sw : Bool), 2 ≤ n → n ≤ m.length →
    sealCrc (insertCrc m n c) n sw = sealCrc m n sw)

/-- R100: CRC_VERIFY; its own strict operand decides between CRC_MISMATCH and warn. -/
def Obligations.CrcVerifyReportsTheMatch : Prop :=
  ∀ (s : State) (m : Bytes) (n : Half) (strict : Bool),
    (m.length ≤ 261 → 2 ≤ n.toNat → n.toNat ≤ m.length →
      crcOf m (n.toNat - 2) s.crcSwap = extractCrc m n.toNat →
      exec (.crcVerify m n strict) s = .next (completed s (okResult 1#32 [] false))) ∧
    (m.length ≤ 261 → 2 ≤ n.toNat → n.toNat ≤ m.length →
      crcOf m (n.toNat - 2) s.crcSwap ≠ extractCrc m n.toNat → strict = true →
      exec (.crcVerify m n strict) s = .next (completed s (errorResult .crcMismatch false))) ∧
    (m.length ≤ 261 → 2 ≤ n.toNat → n.toNat ≤ m.length →
      crcOf m (n.toNat - 2) s.crcSwap ≠ extractCrc m n.toNat → strict = false →
      exec (.crcVerify m n strict) s = .next (completed s (okResult 0#32 [] true))) ∧
    (¬ (m.length ≤ 261 ∧ 2 ≤ n.toNat ∧ n.toNat ≤ m.length) →
      exec (.crcVerify m n strict) s = .next (completed s (errorResult .badParam false)))

/-- R100, W2: a message sealed by set verifies under the same swap. -/
def Obligations.SealedMessageVerifies : Prop :=
  ∀ (m : Bytes) (n : Nat) (sw : Bool), 2 ≤ n → n ≤ m.length → crcMatches (sealCrc m n sw) n sw = true

/-- R100, W2 (the spec backs the law by general knowledge; log entry 12 names the CRC it rests on): changing any one
byte of a message that verifies, checksum bytes included, makes it fail. -/
def Obligations.OneChangedByteIsDetected : Prop :=
  ∀ (m : Bytes) (n k : Nat) (b : Byte) (sw : Bool), 2 ≤ n → n ≤ m.length → k < n → m[k]? ≠ some b →
    crcMatches m n sw = true → crcMatches (m.set k b) n sw = false

/-! ### Codec services -/

/-- R107, R108: BUILD_READ_STATUS and BUILD_WRITE_SINGLE return the sealed frame for ADDR, 0 included, and change
nothing else. -/
def Obligations.BuildServicesReturnTheFrame : Prop :=
  ∀ (s : State) (reg : Half) (v : Word),
    exec .buildReadStatus s =
      .next (completed s (okResult 0#32 (readStatusFrame s.addr s.crcSwap) false)) ∧
    exec (.buildWriteSingle reg v) s =
      .next (completed s (okResult 0#32 (writeSingleFrame s.addr reg v s.crcSwap) false))

/-- R109: BUILD_WRITE_MULTIPLE returns the sealed frame for 1 to 63 values in number equal to the count, and fails
with BAD_PARAM otherwise. -/
def Obligations.BuildWriteMultipleChecksTheCount : Prop :=
  ∀ (s : State) (start count : Half) (vals : List Word),
    (1 ≤ count.toNat → count.toNat ≤ 63 → vals.length = count.toNat →
      exec (.buildWriteMultiple start count vals) s =
        .next (completed s (okResult 0#32 (writeMultipleFrame s.addr start count vals s.crcSwap) false))) ∧
    (¬ (1 ≤ count.toNat ∧ count.toNat ≤ 63 ∧ vals.length = count.toNat) →
      exec (.buildWriteMultiple start count vals) s = .next (completed s (errorResult .badParam false)))

/-- R110: DECODE_STATUS_BANK returns the decoded fields of 23 bytes, checks no CRC and writes no device-state
register; any other length fails with BAD_PARAM. -/
def Obligations.DecodeServiceReturnsTheFields : Prop :=
  ∀ (s : State) (r : Bytes),
    (r.length = 23 →
      ∃ d, d = decodeStatus s.params r ∧
        exec (.decodeStatusBank r) s =
          .next (completed s
            (okResult 0#32
              ([d.switch.setWidth 8, d.mode.setWidth 8] ++ be24 d.voltage ++ be24 d.current) false))) ∧
    (r.length ≠ 23 → exec (.decodeStatusBank r) s = .next (completed s (errorResult .badParam false)))

/-- R80, R105, R106: the decoded fields as numbers of the response bytes. -/
def Obligations.StatusFieldsAreTheirBytes : Prop :=
  ∀ (p : Params) (r : Bytes), p.wf = true → r.length = 23 →
    (decodeStatus p r).switch.toNat = (byteAt r 3).toNat % 2 ∧
    (decodeStatus p r).mode.toNat = ((byteAt r 3).toNat / 2) &&& p.modeMask.toNat ∧
    (decodeStatus p r).voltage.toNat =
      65536 * (byteAt r p.offV.toNat).toNat + 256 * (byteAt r (p.offV.toNat + 1)).toNat +
        (byteAt r (p.offV.toNat + 2)).toNat ∧
    (decodeStatus p r).current.toNat =
      65536 * (byteAt r p.offI.toNat).toNat + 256 * (byteAt r (p.offI.toNat + 1)).toNat +
        (byteAt r (p.offI.toNat + 2)).toNat ∧
    (p.modeMask = 3#3 → ∃ m, loadModeOf (decodeStatus p r).mode = some m)

/-- R105, W5: changing only bit 0 of byte 3 flips only the switch. -/
def Obligations.SwitchBitFlipsOnlyTheSwitch : Prop :=
  ∀ (p : Params) (r : Bytes), p.wf = true → r.length = 23 →
    decodeStatus p (r.set 3 (byteAt r 3 ^^^ 1#8)) =
      { decodeStatus p r with switch := (decodeStatus p r).switch ^^^ 1#1 }

/-! ### Wire commands -/

/-- R101, R115 to R118; that a frame is carried out by itself, for the operation in REQ, is the model's choice of log
entry 9. WIRE_READ_STATUS sends its frame, waits, reads 23 bytes and, when they verify or lenient
verification accepts them, writes the device state and completes with the value of the operation in REQ. -/
def Obligations.WireReadCompletes : Prop :=
  ∀ (a : Byte) (c : Half) (s : State) (r : Bytes),
    s.txbuf.wf maxFrame = true → s.rxbuf.wf statusLen = true → isCsrRead s = false → feedOk s.feed = true →
    feedRead 23 (afterOk s.feed) = .ok r →
    (crcMatches r 23 (reqSwap s) = true ∨ reqStrict s = false) →
    ∃ tb rb u, holds tb (frameOf (.wireReadStatus a c)) s.txbuf ∧ holds rb r s.rxbuf ∧
      u = withDevice (exchanged s .readRegisters (frameOf (.wireReadStatus a c)) tb rb) (decodeStatus s.params r) ∧
      exec (.wireReadStatus a c) s =
        .next (completed u (okResult (statusValue u) [] (!crcMatches r 23 (reqSwap s))))

/-- R102, R103, R115, R116, R118; that a frame is carried out by itself, for the operation in REQ, is the model's
choice of log entry 9. WIRE_WRITE_SINGLE and WIRE_WRITE_MULTIPLE send their frame, wait, read the
acknowledgement and complete when it verifies or lenient verification accepts it, and it is not malformed. -/
def Obligations.WireWriteCompletes : Prop :=
  ∀ (i : Instr) (cmd : WireCmd) (s : State) (r : Bytes),
    Carries i cmd → cmd ≠ .readRegisters → s.txbuf.wf maxFrame = true → s.rxbuf.wf statusLen = true →
    isCsrRead s = false → feedOk s.feed = true → feedRead (respLen cmd) (afterOk s.feed) = .ok r →
    (crcMatches r (respLen cmd) (reqSwap s) = true ∨ reqStrict s = false) →
    ackMalformed s.params cmd (reqAddr s) r = false →
    ∃ tb rb, holds tb (frameOf i) s.txbuf ∧ holds rb r s.rxbuf ∧
      exec i s =
        .next (completed (exchanged s cmd (frameOf i) tb rb)
          (okResult 0#32 [] (!crcMatches r (respLen cmd) (reqSwap s))))

/-- R73, R89: there is no write_multiple frame of no value or more than 63; the model stops on one, by its own choice
of log entry 11. -/
def Obligations.WireCountOutOfRangeFaults : Prop :=
  ∀ (a : Byte) (start c : Half) (vals : List Word) (s : State),
    ¬ (1 ≤ vals.length ∧ vals.length ≤ 63) →
    exec (.wireWriteMultiple a start vals c) s = .fault .countOutOfRange

/-! ### Answers -/

/-- R64: an Ok answer to T_READ(n) has n bytes, whether given as data or free. -/
def Obligations.OkReadHasTheLengthAsked : Prop :=
  ∀ (n : Nat) (f : Feed) (r : Bytes), feedRead n f = .ok r → r.length = n

/-- R21: the answers given as data are taken in order, one to each event that has an answer; giving them as data is
the model's choice of log entry 3. -/
def Obligations.AnswersAreTakenInOrder : Prop :=
  ∀ (f : Feed) (n : Nat) (rest : List Answer),
    (∀ b, f.answers = .done b :: rest → feedOk f = b ∧ afterOk f = { f with answers := rest }) ∧
    (∀ r, f.answers = .read (.ok r) :: rest → r.length = n →
      feedRead n f = .ok r ∧ afterRead n f = { f with answers := rest }) ∧
    (∀ why, f.answers = .read (.fail why) :: rest →
      feedRead n f = .fail why ∧ afterRead n f = { f with answers := rest }) ∧
    (afterOk f).answers = f.answers.tail ∧ (afterRead n f).answers = f.answers.tail

/-! ### The whole machine -/

/-- R118: every operation that completes returns its result, copies it to LAST_RESULT unless it is CSR_READ, and leaves
the block idle and ready. -/
def Obligations.EveryCompletionReturnsItsResult : Prop :=
  ∀ (i : Instr) (s t : State), (∃ r, encode i = .host r) → exec i s = .next t →
    t.phase = .idle ∧ t.req = none ∧ t.returned = s.returned ++ [t.res] ∧
    ((∀ idx, i ≠ .csrRead idx) →
      t.lastResult = { err := t.res.err, warn := t.res.warn, reason := t.res.reason }) ∧
    ((∃ idx, i = .csrRead idx) → t.lastResult = s.lastResult)

/-- R139: an operation that fails validation has issued no transport event and consumed no answer. -/
def Obligations.ValidationComesBeforeAnyIo : Prop :=
  ∀ (i : Instr) (s t : State), exec i s = .next t → t.res.err = 1#3 →
    t.history = s.history ∧ t.feed = s.feed

/-- R137, R140: an operation that raises returns value 0 and no data, and leaves the device state, VALID and the
link. -/
def Obligations.RaisedErrorDiscardsData : Prop :=
  ∀ (i : Instr) (s t : State), exec i s = .next t → t.res.err ≠ 0#3 →
    t.res.value = 0#32 ∧ t.res.data = [] ∧ t.link = s.link ∧ t.valid = s.valid ∧ t.devSwitch = s.devSwitch ∧
      t.devMode = s.devMode ∧ t.devVoltage = s.devVoltage ∧ t.devCurrent = s.devCurrent

/-- R51, R69, R151: no step, reset included, takes an event out of the history or a result out of the record. -/
def Obligations.HistoryOnlyGrows : Prop :=
  ∀ s t : State, step s = .next t → s.history <+: t.history ∧ s.returned <+: t.returned

/-- Every well-formed operation completes, whatever the state. -/
def Obligations.WellFormedOperationsComplete : Prop :=
  ∀ (i : Instr) (s : State), i.wf = true → ∃ t, exec i s = .next t

/-- The invariant holds after reset (R151), for every build whose parameters are in range. -/
def Obligations.ResetSatisfiesTheInvariant : Prop :=
  Inv State.reset ∧ ∀ p : Params, p.wf = true → Inv (State.powerOn p)

/-- Every step keeps the invariant: legal result codes (R136), the phase, REQ and timer in accord (R34, R36, R39),
canonical buffers (R38), the mode within its mask (R106), zero device registers until VALID (R29), and every frame
ever written a well-formed wire command with a non-zero address and a right checksum (R28, R70, R77). -/
def Obligations.StepKeepsTheInvariant : Prop := ∀ s t : State, Inv s → step s = .next t → Inv t

/-- From a state that satisfies the invariant no step stops. -/
def Obligations.InvariantStatesNeverStop : Prop := ∀ s : State, Inv s → ∃ t, step s = .next t

/-- R85, R111: a request with a reserved opcode that is accepted and then stepped edge by edge fails out of CHECK and
has returned its result after two edges; what REQ then holds is left open. -/
def Obligations.ReservedOpcodeFailsEdgeByEdge : Prop :=
  ∀ (s : State) (r : Request), reservedOpcode r.opc = true →
    ∃ q, phaseRun 2 (accept r s) = .next { completed s (errorResult .badOpcode false) with req := q }

/-- R37: CFG_ID holds the three parameters at their places, 0x00080503 with the canonical ones, and is constant: no
step, whatever it runs, changes what it reads as. -/
def Obligations.CfgIdIsConstant : Prop :=
  (∀ s : State, ∃ v, csrValue s 0x0008#16 = some v ∧
    v.extractLsb' 0 3 = s.params.modeMask ∧ v.extractLsb' 8 5 = s.params.offV ∧ v.extractLsb' 16 5 = s.params.offI) ∧
  (∀ s : State, s.params = Params.canonical → csrValue s 0x0008#16 = some 0x00080503#32) ∧
  (∀ s t : State, step s = .next t → csrValue t 0x0008#16 = csrValue s 0x0008#16 ∧ t.params = s.params)
end

