-- ==== Sys2Proof/Laws/Encoding.lean ====
section
/-! SUPPORT. The byte-order laws of the operand helpers: packing and unpacking undo each other (R17, R45, R79). -/

namespace Sys2Proof

open Sys2Proof.Machine

/-- Joining the two bytes of a value gives it back. -/
theorem hiByte_append_loByte (c : Half) : hiByte c ++ loByte c = c := by
  apply BitVec.eq_of_getLsbD_eq
  intro i hi
  simp only [hiByte, loByte]
  rw [BitVec.getLsbD_append]
  simp only [BitVec.getLsbD_extractLsb']
  split
  · simp [*]
  · have e : 8 + (i - 8) = i := by omega
    simp [e]
    omega

/-- The high byte of a joined pair. -/
theorem hiByte_append (a b : Byte) : hiByte (a ++ b) = a := by
  apply BitVec.eq_of_getLsbD_eq
  intro i hi
  simp only [hiByte, BitVec.getLsbD_extractLsb', BitVec.getLsbD_append]
  simp [hi]

/-- The low byte of a joined pair. -/
theorem loByte_append (a b : Byte) : loByte (a ++ b) = b := by
  apply BitVec.eq_of_getLsbD_eq
  intro i hi
  simp only [loByte, BitVec.getLsbD_extractLsb', BitVec.getLsbD_append]
  simp [hi]

theorem be16_append (a b : Byte) : be16 (a ++ b) = [a, b] := by simp [be16, hiByte_append, loByte_append]

/-- Exchanging the bytes twice changes nothing (R16). -/
theorem swap16_swap16 (v : Half) : swap16 (swap16 v) = v := by
  simp only [swap16, hiByte_append, loByte_append]
  exact hiByte_append_loByte v

/-- Joining the four bytes of a value gives it back. -/
theorem append_be32 (v : Word) :
    (v.extractLsb' 24 8 ++ v.extractLsb' 16 8 ++ v.extractLsb' 8 8 ++ v.extractLsb' 0 8 : Word) = v := by
  apply BitVec.eq_of_getLsbD_eq
  intro i hi
  simp only [BitVec.getLsbD_append, BitVec.getLsbD_extractLsb']
  have e1 : ¬ i < 8 → 8 + (i - 8) = i := by omega
  have e2 : ¬ i - 8 < 8 → 16 + (i - 8 - 8) = i := by omega
  have e3 : ¬ i - 8 - 8 < 8 → 24 + (i - 8 - 8 - 8) = i := by omega
  split
  · simp [*]
  · split
    · simp [*]
    · split
      · simp [*]
      · simp [*]
        omega

theorem be32_append (a b c d : Byte) : be32 (a ++ b ++ c ++ d : Word) = [a, b, c, d] := by
  simp only [be32, List.cons.injEq, and_true]
  refine ⟨?_, ?_, ?_, ?_⟩ <;>
  · apply BitVec.eq_of_getLsbD_eq
    intro i hi
    simp only [BitVec.getLsbD_extractLsb', BitVec.getLsbD_append]
    have e1 : 8 + i - 8 = i := by omega
    have e2 : 16 + i - 8 - 8 = i := by omega
    have e3 : 24 + i - 8 - 8 - 8 = i := by omega
    repeat' split
    all_goals first | omega | simp [hi, e1, e2, e3]

theorem be32s_length (vs : List Word) : (be32s vs).length = 4 * vs.length := by
  induction vs with
  | nil => rfl
  | cons v vs ih => simp [be32s, be32, ih]; omega

/-- Reading the values back off a payload (R73, R103). -/
theorem takeWords_be32s (vs : List Word) (rest : Bytes) :
    takeWords vs.length (be32s vs ++ rest) = some (vs, rest) := by
  induction vs with
  | nil => rfl
  | cons v vs ih =>
    simp only [be32s, be32, List.length_cons, List.cons_append, List.nil_append, takeWords, ih, append_be32]

/-- What `takeWords` read was a packed list of values. -/
theorem takeWords_some {n : Nat} {bs : Bytes} {vs : List Word} {rest : Bytes}
    (h : takeWords n bs = some (vs, rest)) : vs.length = n ∧ bs = be32s vs ++ rest := by
  induction n generalizing bs vs rest with
  | zero =>
    simp only [takeWords, Option.some.injEq, Prod.mk.injEq] at h
    obtain ⟨rfl, rfl⟩ := h
    simp [be32s]
  | succ n ih =>
    match bs with
    | b3 :: b2 :: b1 :: b0 :: bs =>
      rw [takeWords] at h
      split at h
      · next hq =>
        cases h
        have := ih hq
        exact ⟨by simp [this.1], by rw [be32s, be32_append]; simp [this.2]⟩
      · cases h
    | [] => simp [takeWords] at h
    | [_] => simp [takeWords] at h
    | [_, _] => simp [takeWords] at h
    | [_, _, _] => simp [takeWords] at h

/-- The low half of a widened half (R82: v32[15:0]). -/
theorem extractLsb_setWidth (c : Half) : (c.setWidth 32).extractLsb' 0 16 = c := by
  apply BitVec.eq_of_getLsbD_eq
  intro i hi
  simp [hi]
  omega

theorem ite_ok {ε α : Type} {c : Prop} [Decidable c] {a b : Except ε α} {i : α}
    (h : (if c then a else b) = .ok i) : (c ∧ a = .ok i) ∨ (¬ c ∧ b = .ok i) := by
  by_cases hc : c
  · exact .inl ⟨hc, by rwa [if_pos hc] at h⟩
  · exact .inr ⟨hc, by rwa [if_neg hc] at h⟩

/-- A request decodes to a host operation with its opcode (R82). -/
theorem decodeRequest_ok {r : Request} {i : Instr} (h : decodeRequest r = .ok i) :
    ∃ q, encode i = .host q ∧ q.opc = r.opc := by
  unfold decodeRequest at h
  iterate 26
    rcases ite_ok h with ⟨hc, h⟩ | ⟨-, h⟩
    · cases h
      exact ⟨_, rfl, hc.symm⟩
  cases h

end Sys2Proof
end

