-- ==== Sys2Proof/Laws/State.lean ====
section
/-! SUPPORT. The fields of a state after each update: one lemma per field, so that no proof unfolds a record
update. -/

namespace Sys2Proof.Machine

/-! ### completed -/

@[simp] theorem completed_params (s : State) (r : Result) : (completed s r).params = s.params := rfl

@[simp] theorem completed_strict (s : State) (r : Result) : (completed s r).strict = s.strict := rfl

@[simp] theorem completed_crcSwap (s : State) (r : Result) : (completed s r).crcSwap = s.crcSwap := rfl

@[simp] theorem completed_addr (s : State) (r : Result) : (completed s r).addr = s.addr := rfl

@[simp] theorem completed_link (s : State) (r : Result) : (completed s r).link = s.link := rfl

@[simp] theorem completed_valid (s : State) (r : Result) : (completed s r).valid = s.valid := rfl

@[simp] theorem completed_lastResult (s : State) (r : Result) : (completed s r).lastResult = { err := r.err, warn := r.warn, reason := r.reason } := rfl

@[simp] theorem completed_devSwitch (s : State) (r : Result) : (completed s r).devSwitch = s.devSwitch := rfl

@[simp] theorem completed_devMode (s : State) (r : Result) : (completed s r).devMode = s.devMode := rfl

@[simp] theorem completed_devVoltage (s : State) (r : Result) : (completed s r).devVoltage = s.devVoltage := rfl

@[simp] theorem completed_devCurrent (s : State) (r : Result) : (completed s r).devCurrent = s.devCurrent := rfl

@[simp] theorem completed_phase (s : State) (r : Result) : (completed s r).phase = .idle := rfl

@[simp] theorem completed_req (s : State) (r : Result) : (completed s r).req = none := rfl

@[simp] theorem completed_res (s : State) (r : Result) : (completed s r).res = r := rfl

@[simp] theorem completed_txbuf (s : State) (r : Result) : (completed s r).txbuf = s.txbuf := rfl

@[simp] theorem completed_rxbuf (s : State) (r : Result) : (completed s r).rxbuf = s.rxbuf := rfl

@[simp] theorem completed_timer (s : State) (r : Result) : (completed s r).timer = s.timer := rfl

@[simp] theorem completed_history (s : State) (r : Result) : (completed s r).history = s.history := rfl

@[simp] theorem completed_inbox (s : State) (r : Result) : (completed s r).inbox = s.inbox := rfl

@[simp] theorem completed_returned (s : State) (r : Result) : (completed s r).returned = s.returned ++ [r] := rfl

@[simp] theorem completed_feed (s : State) (r : Result) : (completed s r).feed = s.feed := rfl

/-! ### returnedIn -/

@[simp] theorem returnedIn_params (s : State) (r : Result) : (returnedIn s r).params = s.params := rfl

@[simp] theorem returnedIn_strict (s : State) (r : Result) : (returnedIn s r).strict = s.strict := rfl

@[simp] theorem returnedIn_crcSwap (s : State) (r : Result) : (returnedIn s r).crcSwap = s.crcSwap := rfl

@[simp] theorem returnedIn_addr (s : State) (r : Result) : (returnedIn s r).addr = s.addr := rfl

@[simp] theorem returnedIn_link (s : State) (r : Result) : (returnedIn s r).link = s.link := rfl

@[simp] theorem returnedIn_valid (s : State) (r : Result) : (returnedIn s r).valid = s.valid := rfl

@[simp] theorem returnedIn_lastResult (s : State) (r : Result) : (returnedIn s r).lastResult = s.lastResult := rfl

@[simp] theorem returnedIn_devSwitch (s : State) (r : Result) : (returnedIn s r).devSwitch = s.devSwitch := rfl

@[simp] theorem returnedIn_devMode (s : State) (r : Result) : (returnedIn s r).devMode = s.devMode := rfl

@[simp] theorem returnedIn_devVoltage (s : State) (r : Result) : (returnedIn s r).devVoltage = s.devVoltage := rfl

@[simp] theorem returnedIn_devCurrent (s : State) (r : Result) : (returnedIn s r).devCurrent = s.devCurrent := rfl

@[simp] theorem returnedIn_phase (s : State) (r : Result) : (returnedIn s r).phase = .idle := rfl

@[simp] theorem returnedIn_req (s : State) (r : Result) : (returnedIn s r).req = none := rfl

@[simp] theorem returnedIn_res (s : State) (r : Result) : (returnedIn s r).res = r := rfl

@[simp] theorem returnedIn_txbuf (s : State) (r : Result) : (returnedIn s r).txbuf = s.txbuf := rfl

@[simp] theorem returnedIn_rxbuf (s : State) (r : Result) : (returnedIn s r).rxbuf = s.rxbuf := rfl

@[simp] theorem returnedIn_timer (s : State) (r : Result) : (returnedIn s r).timer = s.timer := rfl

@[simp] theorem returnedIn_history (s : State) (r : Result) : (returnedIn s r).history = s.history := rfl

@[simp] theorem returnedIn_inbox (s : State) (r : Result) : (returnedIn s r).inbox = s.inbox := rfl

@[simp] theorem returnedIn_returned (s : State) (r : Result) : (returnedIn s r).returned = s.returned ++ [r] := rfl

@[simp] theorem returnedIn_feed (s : State) (r : Result) : (returnedIn s r).feed = s.feed := rfl

/-! ### record -/

@[simp] theorem record_params (e : Event) (s : State) : (record e s).params = s.params := rfl

@[simp] theorem record_strict (e : Event) (s : State) : (record e s).strict = s.strict := rfl

@[simp] theorem record_crcSwap (e : Event) (s : State) : (record e s).crcSwap = s.crcSwap := rfl

@[simp] theorem record_addr (e : Event) (s : State) : (record e s).addr = s.addr := rfl

@[simp] theorem record_link (e : Event) (s : State) : (record e s).link = s.link := rfl

@[simp] theorem record_valid (e : Event) (s : State) : (record e s).valid = s.valid := rfl

@[simp] theorem record_lastResult (e : Event) (s : State) : (record e s).lastResult = s.lastResult := rfl

@[simp] theorem record_devSwitch (e : Event) (s : State) : (record e s).devSwitch = s.devSwitch := rfl

@[simp] theorem record_devMode (e : Event) (s : State) : (record e s).devMode = s.devMode := rfl

@[simp] theorem record_devVoltage (e : Event) (s : State) : (record e s).devVoltage = s.devVoltage := rfl

@[simp] theorem record_devCurrent (e : Event) (s : State) : (record e s).devCurrent = s.devCurrent := rfl

@[simp] theorem record_phase (e : Event) (s : State) : (record e s).phase = s.phase := rfl

@[simp] theorem record_req (e : Event) (s : State) : (record e s).req = s.req := rfl

@[simp] theorem record_res (e : Event) (s : State) : (record e s).res = s.res := rfl

@[simp] theorem record_txbuf (e : Event) (s : State) : (record e s).txbuf = s.txbuf := rfl

@[simp] theorem record_rxbuf (e : Event) (s : State) : (record e s).rxbuf = s.rxbuf := rfl

@[simp] theorem record_timer (e : Event) (s : State) : (record e s).timer = s.timer := rfl

@[simp] theorem record_history (e : Event) (s : State) : (record e s).history = s.history ++ [e] := rfl

@[simp] theorem record_inbox (e : Event) (s : State) : (record e s).inbox = s.inbox := rfl

@[simp] theorem record_returned (e : Event) (s : State) : (record e s).returned = s.returned := rfl

@[simp] theorem record_feed (e : Event) (s : State) : (record e s).feed = s.feed := rfl

/-! ### accept -/

@[simp] theorem accept_params (r : Request) (s : State) : (accept r s).params = s.params := rfl

@[simp] theorem accept_strict (r : Request) (s : State) : (accept r s).strict = s.strict := rfl

@[simp] theorem accept_crcSwap (r : Request) (s : State) : (accept r s).crcSwap = s.crcSwap := rfl

@[simp] theorem accept_addr (r : Request) (s : State) : (accept r s).addr = s.addr := rfl

@[simp] theorem accept_link (r : Request) (s : State) : (accept r s).link = s.link := rfl

@[simp] theorem accept_valid (r : Request) (s : State) : (accept r s).valid = s.valid := rfl

@[simp] theorem accept_lastResult (r : Request) (s : State) : (accept r s).lastResult = s.lastResult := rfl

@[simp] theorem accept_devSwitch (r : Request) (s : State) : (accept r s).devSwitch = s.devSwitch := rfl

@[simp] theorem accept_devMode (r : Request) (s : State) : (accept r s).devMode = s.devMode := rfl

@[simp] theorem accept_devVoltage (r : Request) (s : State) : (accept r s).devVoltage = s.devVoltage := rfl

@[simp] theorem accept_devCurrent (r : Request) (s : State) : (accept r s).devCurrent = s.devCurrent := rfl

@[simp] theorem accept_phase (r : Request) (s : State) : (accept r s).phase = .check := rfl

@[simp] theorem accept_req (r : Request) (s : State) : (accept r s).req = some { request := r, strict := s.strict, swap := s.crcSwap, addr := s.addr } := rfl

@[simp] theorem accept_res (r : Request) (s : State) : (accept r s).res = Result.blank := rfl

@[simp] theorem accept_txbuf (r : Request) (s : State) : (accept r s).txbuf = s.txbuf := rfl

@[simp] theorem accept_rxbuf (r : Request) (s : State) : (accept r s).rxbuf = s.rxbuf := rfl

@[simp] theorem accept_timer (r : Request) (s : State) : (accept r s).timer = s.timer := rfl

@[simp] theorem accept_history (r : Request) (s : State) : (accept r s).history = s.history := rfl

@[simp] theorem accept_inbox (r : Request) (s : State) : (accept r s).inbox = s.inbox := rfl

@[simp] theorem accept_returned (r : Request) (s : State) : (accept r s).returned = s.returned := rfl

@[simp] theorem accept_feed (r : Request) (s : State) : (accept r s).feed = s.feed := rfl

/-! ### raise -/

@[simp] theorem raise_params (e : OpError) (s : State) : (raise e s).params = s.params := rfl

@[simp] theorem raise_strict (e : OpError) (s : State) : (raise e s).strict = s.strict := rfl

@[simp] theorem raise_crcSwap (e : OpError) (s : State) : (raise e s).crcSwap = s.crcSwap := rfl

@[simp] theorem raise_addr (e : OpError) (s : State) : (raise e s).addr = s.addr := rfl

@[simp] theorem raise_link (e : OpError) (s : State) : (raise e s).link = s.link := rfl

@[simp] theorem raise_valid (e : OpError) (s : State) : (raise e s).valid = s.valid := rfl

@[simp] theorem raise_lastResult (e : OpError) (s : State) : (raise e s).lastResult = s.lastResult := rfl

@[simp] theorem raise_devSwitch (e : OpError) (s : State) : (raise e s).devSwitch = s.devSwitch := rfl

@[simp] theorem raise_devMode (e : OpError) (s : State) : (raise e s).devMode = s.devMode := rfl

@[simp] theorem raise_devVoltage (e : OpError) (s : State) : (raise e s).devVoltage = s.devVoltage := rfl

@[simp] theorem raise_devCurrent (e : OpError) (s : State) : (raise e s).devCurrent = s.devCurrent := rfl

@[simp] theorem raise_phase (e : OpError) (s : State) : (raise e s).phase = .done := rfl

@[simp] theorem raise_req (e : OpError) (s : State) : (raise e s).req = s.req := rfl

@[simp] theorem raise_res (e : OpError) (s : State) : (raise e s).res = errorResult e s.res.warn := rfl

@[simp] theorem raise_txbuf (e : OpError) (s : State) : (raise e s).txbuf = s.txbuf := rfl

@[simp] theorem raise_rxbuf (e : OpError) (s : State) : (raise e s).rxbuf = s.rxbuf := rfl

@[simp] theorem raise_timer (e : OpError) (s : State) : (raise e s).timer = s.timer := rfl

@[simp] theorem raise_history (e : OpError) (s : State) : (raise e s).history = s.history := rfl

@[simp] theorem raise_inbox (e : OpError) (s : State) : (raise e s).inbox = s.inbox := rfl

@[simp] theorem raise_returned (e : OpError) (s : State) : (raise e s).returned = s.returned := rfl

@[simp] theorem raise_feed (e : OpError) (s : State) : (raise e s).feed = s.feed := rfl

/-! ### succeed -/

@[simp] theorem succeed_params (v : Word) (d : Bytes) (s : State) : (succeed v d s).params = s.params := rfl

@[simp] theorem succeed_strict (v : Word) (d : Bytes) (s : State) : (succeed v d s).strict = s.strict := rfl

@[simp] theorem succeed_crcSwap (v : Word) (d : Bytes) (s : State) : (succeed v d s).crcSwap = s.crcSwap := rfl

@[simp] theorem succeed_addr (v : Word) (d : Bytes) (s : State) : (succeed v d s).addr = s.addr := rfl

@[simp] theorem succeed_link (v : Word) (d : Bytes) (s : State) : (succeed v d s).link = s.link := rfl

@[simp] theorem succeed_valid (v : Word) (d : Bytes) (s : State) : (succeed v d s).valid = s.valid := rfl

@[simp] theorem succeed_lastResult (v : Word) (d : Bytes) (s : State) : (succeed v d s).lastResult = s.lastResult := rfl

@[simp] theorem succeed_devSwitch (v : Word) (d : Bytes) (s : State) : (succeed v d s).devSwitch = s.devSwitch := rfl

@[simp] theorem succeed_devMode (v : Word) (d : Bytes) (s : State) : (succeed v d s).devMode = s.devMode := rfl

@[simp] theorem succeed_devVoltage (v : Word) (d : Bytes) (s : State) : (succeed v d s).devVoltage = s.devVoltage := rfl

@[simp] theorem succeed_devCurrent (v : Word) (d : Bytes) (s : State) : (succeed v d s).devCurrent = s.devCurrent := rfl

@[simp] theorem succeed_phase (v : Word) (d : Bytes) (s : State) : (succeed v d s).phase = .done := rfl

@[simp] theorem succeed_req (v : Word) (d : Bytes) (s : State) : (succeed v d s).req = s.req := rfl

@[simp] theorem succeed_res (v : Word) (d : Bytes) (s : State) : (succeed v d s).res = okResult v d s.res.warn := rfl

@[simp] theorem succeed_txbuf (v : Word) (d : Bytes) (s : State) : (succeed v d s).txbuf = s.txbuf := rfl

@[simp] theorem succeed_rxbuf (v : Word) (d : Bytes) (s : State) : (succeed v d s).rxbuf = s.rxbuf := rfl

@[simp] theorem succeed_timer (v : Word) (d : Bytes) (s : State) : (succeed v d s).timer = s.timer := rfl

@[simp] theorem succeed_history (v : Word) (d : Bytes) (s : State) : (succeed v d s).history = s.history := rfl

@[simp] theorem succeed_inbox (v : Word) (d : Bytes) (s : State) : (succeed v d s).inbox = s.inbox := rfl

@[simp] theorem succeed_returned (v : Word) (d : Bytes) (s : State) : (succeed v d s).returned = s.returned := rfl

@[simp] theorem succeed_feed (v : Word) (d : Bytes) (s : State) : (succeed v d s).feed = s.feed := rfl

/-! ### finish -/

@[simp] theorem finish_params (s : State) : (finish s).params = s.params := rfl

@[simp] theorem finish_strict (s : State) : (finish s).strict = s.strict := rfl

@[simp] theorem finish_crcSwap (s : State) : (finish s).crcSwap = s.crcSwap := rfl

@[simp] theorem finish_addr (s : State) : (finish s).addr = s.addr := rfl

@[simp] theorem finish_link (s : State) : (finish s).link = s.link := rfl

@[simp] theorem finish_valid (s : State) : (finish s).valid = s.valid := rfl

@[simp] theorem finish_lastResult (s : State) : (finish s).lastResult = if isCsrRead s then s.lastResult else { err := s.res.err, warn := s.res.warn, reason := s.res.reason } := rfl

@[simp] theorem finish_devSwitch (s : State) : (finish s).devSwitch = s.devSwitch := rfl

@[simp] theorem finish_devMode (s : State) : (finish s).devMode = s.devMode := rfl

@[simp] theorem finish_devVoltage (s : State) : (finish s).devVoltage = s.devVoltage := rfl

@[simp] theorem finish_devCurrent (s : State) : (finish s).devCurrent = s.devCurrent := rfl

@[simp] theorem finish_phase (s : State) : (finish s).phase = .idle := rfl

@[simp] theorem finish_req (s : State) : (finish s).req = none := rfl

@[simp] theorem finish_res (s : State) : (finish s).res = s.res := rfl

@[simp] theorem finish_txbuf (s : State) : (finish s).txbuf = s.txbuf := rfl

@[simp] theorem finish_rxbuf (s : State) : (finish s).rxbuf = s.rxbuf := rfl

@[simp] theorem finish_timer (s : State) : (finish s).timer = s.timer := rfl

@[simp] theorem finish_history (s : State) : (finish s).history = s.history := rfl

@[simp] theorem finish_inbox (s : State) : (finish s).inbox = s.inbox := rfl

@[simp] theorem finish_returned (s : State) : (finish s).returned = s.returned ++ [s.res] := rfl

@[simp] theorem finish_feed (s : State) : (finish s).feed = s.feed := rfl

/-! ### buildTx -/

@[simp] theorem buildTx_params (f : Bytes) (s : State) : (buildTx f s).params = s.params := rfl

@[simp] theorem buildTx_strict (f : Bytes) (s : State) : (buildTx f s).strict = s.strict := rfl

@[simp] theorem buildTx_crcSwap (f : Bytes) (s : State) : (buildTx f s).crcSwap = s.crcSwap := rfl

@[simp] theorem buildTx_addr (f : Bytes) (s : State) : (buildTx f s).addr = s.addr := rfl

@[simp] theorem buildTx_link (f : Bytes) (s : State) : (buildTx f s).link = s.link := rfl

@[simp] theorem buildTx_valid (f : Bytes) (s : State) : (buildTx f s).valid = s.valid := rfl

@[simp] theorem buildTx_lastResult (f : Bytes) (s : State) : (buildTx f s).lastResult = s.lastResult := rfl

@[simp] theorem buildTx_devSwitch (f : Bytes) (s : State) : (buildTx f s).devSwitch = s.devSwitch := rfl

@[simp] theorem buildTx_devMode (f : Bytes) (s : State) : (buildTx f s).devMode = s.devMode := rfl

@[simp] theorem buildTx_devVoltage (f : Bytes) (s : State) : (buildTx f s).devVoltage = s.devVoltage := rfl

@[simp] theorem buildTx_devCurrent (f : Bytes) (s : State) : (buildTx f s).devCurrent = s.devCurrent := rfl

@[simp] theorem buildTx_phase (f : Bytes) (s : State) : (buildTx f s).phase = .seal := rfl

@[simp] theorem buildTx_req (f : Bytes) (s : State) : (buildTx f s).req = s.req := rfl

@[simp] theorem buildTx_res (f : Bytes) (s : State) : (buildTx f s).res = s.res := rfl

@[simp] theorem buildTx_txbuf (f : Bytes) (s : State) : (buildTx f s).txbuf = memWriteBytes s.txbuf 0 f := rfl

@[simp] theorem buildTx_rxbuf (f : Bytes) (s : State) : (buildTx f s).rxbuf = s.rxbuf := rfl

@[simp] theorem buildTx_timer (f : Bytes) (s : State) : (buildTx f s).timer = s.timer := rfl

@[simp] theorem buildTx_history (f : Bytes) (s : State) : (buildTx f s).history = s.history := rfl

@[simp] theorem buildTx_inbox (f : Bytes) (s : State) : (buildTx f s).inbox = s.inbox := rfl

@[simp] theorem buildTx_returned (f : Bytes) (s : State) : (buildTx f s).returned = s.returned := rfl

@[simp] theorem buildTx_feed (f : Bytes) (s : State) : (buildTx f s).feed = s.feed := rfl

/-! ### sealTx -/

@[simp] theorem sealTx_params (n : Nat) (s : State) : (sealTx n s).params = s.params := rfl

@[simp] theorem sealTx_strict (n : Nat) (s : State) : (sealTx n s).strict = s.strict := rfl

@[simp] theorem sealTx_crcSwap (n : Nat) (s : State) : (sealTx n s).crcSwap = s.crcSwap := rfl

@[simp] theorem sealTx_addr (n : Nat) (s : State) : (sealTx n s).addr = s.addr := rfl

@[simp] theorem sealTx_link (n : Nat) (s : State) : (sealTx n s).link = s.link := rfl

@[simp] theorem sealTx_valid (n : Nat) (s : State) : (sealTx n s).valid = s.valid := rfl

@[simp] theorem sealTx_lastResult (n : Nat) (s : State) : (sealTx n s).lastResult = s.lastResult := rfl

@[simp] theorem sealTx_devSwitch (n : Nat) (s : State) : (sealTx n s).devSwitch = s.devSwitch := rfl

@[simp] theorem sealTx_devMode (n : Nat) (s : State) : (sealTx n s).devMode = s.devMode := rfl

@[simp] theorem sealTx_devVoltage (n : Nat) (s : State) : (sealTx n s).devVoltage = s.devVoltage := rfl

@[simp] theorem sealTx_devCurrent (n : Nat) (s : State) : (sealTx n s).devCurrent = s.devCurrent := rfl

@[simp] theorem sealTx_phase (n : Nat) (s : State) : (sealTx n s).phase = .tx := rfl

@[simp] theorem sealTx_req (n : Nat) (s : State) : (sealTx n s).req = s.req := rfl

@[simp] theorem sealTx_res (n : Nat) (s : State) : (sealTx n s).res = s.res := rfl

@[simp] theorem sealTx_txbuf (n : Nat) (s : State) : (sealTx n s).txbuf = memWriteBytes s.txbuf 0 (sealCrc (memReadBytes s.txbuf 0 n) n (reqSwap s)) := rfl

@[simp] theorem sealTx_rxbuf (n : Nat) (s : State) : (sealTx n s).rxbuf = s.rxbuf := rfl

@[simp] theorem sealTx_timer (n : Nat) (s : State) : (sealTx n s).timer = s.timer := rfl

@[simp] theorem sealTx_history (n : Nat) (s : State) : (sealTx n s).history = s.history := rfl

@[simp] theorem sealTx_inbox (n : Nat) (s : State) : (sealTx n s).inbox = s.inbox := rfl

@[simp] theorem sealTx_returned (n : Nat) (s : State) : (sealTx n s).returned = s.returned := rfl

@[simp] theorem sealTx_feed (n : Nat) (s : State) : (sealTx n s).feed = s.feed := rfl

/-! ### setFeed -/

@[simp] theorem setFeed_params (f : Feed) (s : State) : (setFeed f s).params = s.params := rfl

@[simp] theorem setFeed_strict (f : Feed) (s : State) : (setFeed f s).strict = s.strict := rfl

@[simp] theorem setFeed_crcSwap (f : Feed) (s : State) : (setFeed f s).crcSwap = s.crcSwap := rfl

@[simp] theorem setFeed_addr (f : Feed) (s : State) : (setFeed f s).addr = s.addr := rfl

@[simp] theorem setFeed_link (f : Feed) (s : State) : (setFeed f s).link = s.link := rfl

@[simp] theorem setFeed_valid (f : Feed) (s : State) : (setFeed f s).valid = s.valid := rfl

@[simp] theorem setFeed_lastResult (f : Feed) (s : State) : (setFeed f s).lastResult = s.lastResult := rfl

@[simp] theorem setFeed_devSwitch (f : Feed) (s : State) : (setFeed f s).devSwitch = s.devSwitch := rfl

@[simp] theorem setFeed_devMode (f : Feed) (s : State) : (setFeed f s).devMode = s.devMode := rfl

@[simp] theorem setFeed_devVoltage (f : Feed) (s : State) : (setFeed f s).devVoltage = s.devVoltage := rfl

@[simp] theorem setFeed_devCurrent (f : Feed) (s : State) : (setFeed f s).devCurrent = s.devCurrent := rfl

@[simp] theorem setFeed_phase (f : Feed) (s : State) : (setFeed f s).phase = s.phase := rfl

@[simp] theorem setFeed_req (f : Feed) (s : State) : (setFeed f s).req = s.req := rfl

@[simp] theorem setFeed_res (f : Feed) (s : State) : (setFeed f s).res = s.res := rfl

@[simp] theorem setFeed_txbuf (f : Feed) (s : State) : (setFeed f s).txbuf = s.txbuf := rfl

@[simp] theorem setFeed_rxbuf (f : Feed) (s : State) : (setFeed f s).rxbuf = s.rxbuf := rfl

@[simp] theorem setFeed_timer (f : Feed) (s : State) : (setFeed f s).timer = s.timer := rfl

@[simp] theorem setFeed_history (f : Feed) (s : State) : (setFeed f s).history = s.history := rfl

@[simp] theorem setFeed_inbox (f : Feed) (s : State) : (setFeed f s).inbox = s.inbox := rfl

@[simp] theorem setFeed_returned (f : Feed) (s : State) : (setFeed f s).returned = s.returned := rfl

@[simp] theorem setFeed_feed (f : Feed) (s : State) : (setFeed f s).feed = f := rfl

/-! ### setPhase -/

@[simp] theorem setPhase_params (p : Phase) (s : State) : (setPhase p s).params = s.params := rfl

@[simp] theorem setPhase_strict (p : Phase) (s : State) : (setPhase p s).strict = s.strict := rfl

@[simp] theorem setPhase_crcSwap (p : Phase) (s : State) : (setPhase p s).crcSwap = s.crcSwap := rfl

@[simp] theorem setPhase_addr (p : Phase) (s : State) : (setPhase p s).addr = s.addr := rfl

@[simp] theorem setPhase_link (p : Phase) (s : State) : (setPhase p s).link = s.link := rfl

@[simp] theorem setPhase_valid (p : Phase) (s : State) : (setPhase p s).valid = s.valid := rfl

@[simp] theorem setPhase_lastResult (p : Phase) (s : State) : (setPhase p s).lastResult = s.lastResult := rfl

@[simp] theorem setPhase_devSwitch (p : Phase) (s : State) : (setPhase p s).devSwitch = s.devSwitch := rfl

@[simp] theorem setPhase_devMode (p : Phase) (s : State) : (setPhase p s).devMode = s.devMode := rfl

@[simp] theorem setPhase_devVoltage (p : Phase) (s : State) : (setPhase p s).devVoltage = s.devVoltage := rfl

@[simp] theorem setPhase_devCurrent (p : Phase) (s : State) : (setPhase p s).devCurrent = s.devCurrent := rfl

@[simp] theorem setPhase_phase (p : Phase) (s : State) : (setPhase p s).phase = p := rfl

@[simp] theorem setPhase_req (p : Phase) (s : State) : (setPhase p s).req = s.req := rfl

@[simp] theorem setPhase_res (p : Phase) (s : State) : (setPhase p s).res = s.res := rfl

@[simp] theorem setPhase_txbuf (p : Phase) (s : State) : (setPhase p s).txbuf = s.txbuf := rfl

@[simp] theorem setPhase_rxbuf (p : Phase) (s : State) : (setPhase p s).rxbuf = s.rxbuf := rfl

@[simp] theorem setPhase_timer (p : Phase) (s : State) : (setPhase p s).timer = s.timer := rfl

@[simp] theorem setPhase_history (p : Phase) (s : State) : (setPhase p s).history = s.history := rfl

@[simp] theorem setPhase_inbox (p : Phase) (s : State) : (setPhase p s).inbox = s.inbox := rfl

@[simp] theorem setPhase_returned (p : Phase) (s : State) : (setPhase p s).returned = s.returned := rfl

@[simp] theorem setPhase_feed (p : Phase) (s : State) : (setPhase p s).feed = s.feed := rfl

/-! ### setWarn -/

@[simp] theorem setWarn_params (s : State) : (setWarn s).params = s.params := rfl

@[simp] theorem setWarn_strict (s : State) : (setWarn s).strict = s.strict := rfl

@[simp] theorem setWarn_crcSwap (s : State) : (setWarn s).crcSwap = s.crcSwap := rfl

@[simp] theorem setWarn_addr (s : State) : (setWarn s).addr = s.addr := rfl

@[simp] theorem setWarn_link (s : State) : (setWarn s).link = s.link := rfl

@[simp] theorem setWarn_valid (s : State) : (setWarn s).valid = s.valid := rfl

@[simp] theorem setWarn_lastResult (s : State) : (setWarn s).lastResult = s.lastResult := rfl

@[simp] theorem setWarn_devSwitch (s : State) : (setWarn s).devSwitch = s.devSwitch := rfl

@[simp] theorem setWarn_devMode (s : State) : (setWarn s).devMode = s.devMode := rfl

@[simp] theorem setWarn_devVoltage (s : State) : (setWarn s).devVoltage = s.devVoltage := rfl

@[simp] theorem setWarn_devCurrent (s : State) : (setWarn s).devCurrent = s.devCurrent := rfl

@[simp] theorem setWarn_phase (s : State) : (setWarn s).phase = s.phase := rfl

@[simp] theorem setWarn_req (s : State) : (setWarn s).req = s.req := rfl

@[simp] theorem setWarn_res (s : State) : (setWarn s).res = { s.res with warn := true } := rfl

@[simp] theorem setWarn_txbuf (s : State) : (setWarn s).txbuf = s.txbuf := rfl

@[simp] theorem setWarn_rxbuf (s : State) : (setWarn s).rxbuf = s.rxbuf := rfl

@[simp] theorem setWarn_timer (s : State) : (setWarn s).timer = s.timer := rfl

@[simp] theorem setWarn_history (s : State) : (setWarn s).history = s.history := rfl

@[simp] theorem setWarn_inbox (s : State) : (setWarn s).inbox = s.inbox := rfl

@[simp] theorem setWarn_returned (s : State) : (setWarn s).returned = s.returned := rfl

@[simp] theorem setWarn_feed (s : State) : (setWarn s).feed = s.feed := rfl

/-! ### startTimer -/

@[simp] theorem startTimer_params (s : State) : (startTimer s).params = s.params := rfl

@[simp] theorem startTimer_strict (s : State) : (startTimer s).strict = s.strict := rfl

@[simp] theorem startTimer_crcSwap (s : State) : (startTimer s).crcSwap = s.crcSwap := rfl

@[simp] theorem startTimer_addr (s : State) : (startTimer s).addr = s.addr := rfl

@[simp] theorem startTimer_link (s : State) : (startTimer s).link = s.link := rfl

@[simp] theorem startTimer_valid (s : State) : (startTimer s).valid = s.valid := rfl

@[simp] theorem startTimer_lastResult (s : State) : (startTimer s).lastResult = s.lastResult := rfl

@[simp] theorem startTimer_devSwitch (s : State) : (startTimer s).devSwitch = s.devSwitch := rfl

@[simp] theorem startTimer_devMode (s : State) : (startTimer s).devMode = s.devMode := rfl

@[simp] theorem startTimer_devVoltage (s : State) : (startTimer s).devVoltage = s.devVoltage := rfl

@[simp] theorem startTimer_devCurrent (s : State) : (startTimer s).devCurrent = s.devCurrent := rfl

@[simp] theorem startTimer_phase (s : State) : (startTimer s).phase = .wait := rfl

@[simp] theorem startTimer_req (s : State) : (startTimer s).req = s.req := rfl

@[simp] theorem startTimer_res (s : State) : (startTimer s).res = s.res := rfl

@[simp] theorem startTimer_txbuf (s : State) : (startTimer s).txbuf = s.txbuf := rfl

@[simp] theorem startTimer_rxbuf (s : State) : (startTimer s).rxbuf = s.rxbuf := rfl

@[simp] theorem startTimer_timer (s : State) : (startTimer s).timer = .running := rfl

@[simp] theorem startTimer_history (s : State) : (startTimer s).history = s.history := rfl

@[simp] theorem startTimer_inbox (s : State) : (startTimer s).inbox = s.inbox := rfl

@[simp] theorem startTimer_returned (s : State) : (startTimer s).returned = s.returned := rfl

@[simp] theorem startTimer_feed (s : State) : (startTimer s).feed = s.feed := rfl

/-! ### stopTimer -/

@[simp] theorem stopTimer_params (s : State) : (stopTimer s).params = s.params := rfl

@[simp] theorem stopTimer_strict (s : State) : (stopTimer s).strict = s.strict := rfl

@[simp] theorem stopTimer_crcSwap (s : State) : (stopTimer s).crcSwap = s.crcSwap := rfl

@[simp] theorem stopTimer_addr (s : State) : (stopTimer s).addr = s.addr := rfl

@[simp] theorem stopTimer_link (s : State) : (stopTimer s).link = s.link := rfl

@[simp] theorem stopTimer_valid (s : State) : (stopTimer s).valid = s.valid := rfl

@[simp] theorem stopTimer_lastResult (s : State) : (stopTimer s).lastResult = s.lastResult := rfl

@[simp] theorem stopTimer_devSwitch (s : State) : (stopTimer s).devSwitch = s.devSwitch := rfl

@[simp] theorem stopTimer_devMode (s : State) : (stopTimer s).devMode = s.devMode := rfl

@[simp] theorem stopTimer_devVoltage (s : State) : (stopTimer s).devVoltage = s.devVoltage := rfl

@[simp] theorem stopTimer_devCurrent (s : State) : (stopTimer s).devCurrent = s.devCurrent := rfl

@[simp] theorem stopTimer_phase (s : State) : (stopTimer s).phase = .rx := rfl

@[simp] theorem stopTimer_req (s : State) : (stopTimer s).req = s.req := rfl

@[simp] theorem stopTimer_res (s : State) : (stopTimer s).res = s.res := rfl

@[simp] theorem stopTimer_txbuf (s : State) : (stopTimer s).txbuf = s.txbuf := rfl

@[simp] theorem stopTimer_rxbuf (s : State) : (stopTimer s).rxbuf = s.rxbuf := rfl

@[simp] theorem stopTimer_timer (s : State) : (stopTimer s).timer = .stopped := rfl

@[simp] theorem stopTimer_history (s : State) : (stopTimer s).history = s.history := rfl

@[simp] theorem stopTimer_inbox (s : State) : (stopTimer s).inbox = s.inbox := rfl

@[simp] theorem stopTimer_returned (s : State) : (stopTimer s).returned = s.returned := rfl

@[simp] theorem stopTimer_feed (s : State) : (stopTimer s).feed = s.feed := rfl

/-! ### storeRx -/

@[simp] theorem storeRx_params (r : Bytes) (s : State) : (storeRx r s).params = s.params := rfl

@[simp] theorem storeRx_strict (r : Bytes) (s : State) : (storeRx r s).strict = s.strict := rfl

@[simp] theorem storeRx_crcSwap (r : Bytes) (s : State) : (storeRx r s).crcSwap = s.crcSwap := rfl

@[simp] theorem storeRx_addr (r : Bytes) (s : State) : (storeRx r s).addr = s.addr := rfl

@[simp] theorem storeRx_link (r : Bytes) (s : State) : (storeRx r s).link = s.link := rfl

@[simp] theorem storeRx_valid (r : Bytes) (s : State) : (storeRx r s).valid = s.valid := rfl

@[simp] theorem storeRx_lastResult (r : Bytes) (s : State) : (storeRx r s).lastResult = s.lastResult := rfl

@[simp] theorem storeRx_devSwitch (r : Bytes) (s : State) : (storeRx r s).devSwitch = s.devSwitch := rfl

@[simp] theorem storeRx_devMode (r : Bytes) (s : State) : (storeRx r s).devMode = s.devMode := rfl

@[simp] theorem storeRx_devVoltage (r : Bytes) (s : State) : (storeRx r s).devVoltage = s.devVoltage := rfl

@[simp] theorem storeRx_devCurrent (r : Bytes) (s : State) : (storeRx r s).devCurrent = s.devCurrent := rfl

@[simp] theorem storeRx_phase (r : Bytes) (s : State) : (storeRx r s).phase = .verify := rfl

@[simp] theorem storeRx_req (r : Bytes) (s : State) : (storeRx r s).req = s.req := rfl

@[simp] theorem storeRx_res (r : Bytes) (s : State) : (storeRx r s).res = s.res := rfl

@[simp] theorem storeRx_txbuf (r : Bytes) (s : State) : (storeRx r s).txbuf = s.txbuf := rfl

@[simp] theorem storeRx_rxbuf (r : Bytes) (s : State) : (storeRx r s).rxbuf = memWriteBytes s.rxbuf 0 r := rfl

@[simp] theorem storeRx_timer (r : Bytes) (s : State) : (storeRx r s).timer = s.timer := rfl

@[simp] theorem storeRx_history (r : Bytes) (s : State) : (storeRx r s).history = s.history := rfl

@[simp] theorem storeRx_inbox (r : Bytes) (s : State) : (storeRx r s).inbox = s.inbox := rfl

@[simp] theorem storeRx_returned (r : Bytes) (s : State) : (storeRx r s).returned = s.returned := rfl

@[simp] theorem storeRx_feed (r : Bytes) (s : State) : (storeRx r s).feed = s.feed := rfl

/-! ### setLink -/

@[simp] theorem setLink_params (l : Link) (s : State) : (setLink l s).params = s.params := rfl

@[simp] theorem setLink_strict (l : Link) (s : State) : (setLink l s).strict = s.strict := rfl

@[simp] theorem setLink_crcSwap (l : Link) (s : State) : (setLink l s).crcSwap = s.crcSwap := rfl

@[simp] theorem setLink_addr (l : Link) (s : State) : (setLink l s).addr = s.addr := rfl

@[simp] theorem setLink_link (l : Link) (s : State) : (setLink l s).link = l := rfl

@[simp] theorem setLink_valid (l : Link) (s : State) : (setLink l s).valid = s.valid := rfl

@[simp] theorem setLink_lastResult (l : Link) (s : State) : (setLink l s).lastResult = s.lastResult := rfl

@[simp] theorem setLink_devSwitch (l : Link) (s : State) : (setLink l s).devSwitch = s.devSwitch := rfl

@[simp] theorem setLink_devMode (l : Link) (s : State) : (setLink l s).devMode = s.devMode := rfl

@[simp] theorem setLink_devVoltage (l : Link) (s : State) : (setLink l s).devVoltage = s.devVoltage := rfl

@[simp] theorem setLink_devCurrent (l : Link) (s : State) : (setLink l s).devCurrent = s.devCurrent := rfl

@[simp] theorem setLink_phase (l : Link) (s : State) : (setLink l s).phase = s.phase := rfl

@[simp] theorem setLink_req (l : Link) (s : State) : (setLink l s).req = s.req := rfl

@[simp] theorem setLink_res (l : Link) (s : State) : (setLink l s).res = s.res := rfl

@[simp] theorem setLink_txbuf (l : Link) (s : State) : (setLink l s).txbuf = s.txbuf := rfl

@[simp] theorem setLink_rxbuf (l : Link) (s : State) : (setLink l s).rxbuf = s.rxbuf := rfl

@[simp] theorem setLink_timer (l : Link) (s : State) : (setLink l s).timer = s.timer := rfl

@[simp] theorem setLink_history (l : Link) (s : State) : (setLink l s).history = s.history := rfl

@[simp] theorem setLink_inbox (l : Link) (s : State) : (setLink l s).inbox = s.inbox := rfl

@[simp] theorem setLink_returned (l : Link) (s : State) : (setLink l s).returned = s.returned := rfl

@[simp] theorem setLink_feed (l : Link) (s : State) : (setLink l s).feed = s.feed := rfl

/-! ### setCtrl -/

@[simp] theorem setCtrl_params (b c : Bool) (s : State) : (setCtrl b c s).params = s.params := rfl

@[simp] theorem setCtrl_strict (b c : Bool) (s : State) : (setCtrl b c s).strict = b := rfl

@[simp] theorem setCtrl_crcSwap (b c : Bool) (s : State) : (setCtrl b c s).crcSwap = c := rfl

@[simp] theorem setCtrl_addr (b c : Bool) (s : State) : (setCtrl b c s).addr = s.addr := rfl

@[simp] theorem setCtrl_link (b c : Bool) (s : State) : (setCtrl b c s).link = s.link := rfl

@[simp] theorem setCtrl_valid (b c : Bool) (s : State) : (setCtrl b c s).valid = s.valid := rfl

@[simp] theorem setCtrl_lastResult (b c : Bool) (s : State) : (setCtrl b c s).lastResult = s.lastResult := rfl

@[simp] theorem setCtrl_devSwitch (b c : Bool) (s : State) : (setCtrl b c s).devSwitch = s.devSwitch := rfl

@[simp] theorem setCtrl_devMode (b c : Bool) (s : State) : (setCtrl b c s).devMode = s.devMode := rfl

@[simp] theorem setCtrl_devVoltage (b c : Bool) (s : State) : (setCtrl b c s).devVoltage = s.devVoltage := rfl

@[simp] theorem setCtrl_devCurrent (b c : Bool) (s : State) : (setCtrl b c s).devCurrent = s.devCurrent := rfl

@[simp] theorem setCtrl_phase (b c : Bool) (s : State) : (setCtrl b c s).phase = s.phase := rfl

@[simp] theorem setCtrl_req (b c : Bool) (s : State) : (setCtrl b c s).req = s.req := rfl

@[simp] theorem setCtrl_res (b c : Bool) (s : State) : (setCtrl b c s).res = s.res := rfl

@[simp] theorem setCtrl_txbuf (b c : Bool) (s : State) : (setCtrl b c s).txbuf = s.txbuf := rfl

@[simp] theorem setCtrl_rxbuf (b c : Bool) (s : State) : (setCtrl b c s).rxbuf = s.rxbuf := rfl

@[simp] theorem setCtrl_timer (b c : Bool) (s : State) : (setCtrl b c s).timer = s.timer := rfl

@[simp] theorem setCtrl_history (b c : Bool) (s : State) : (setCtrl b c s).history = s.history := rfl

@[simp] theorem setCtrl_inbox (b c : Bool) (s : State) : (setCtrl b c s).inbox = s.inbox := rfl

@[simp] theorem setCtrl_returned (b c : Bool) (s : State) : (setCtrl b c s).returned = s.returned := rfl

@[simp] theorem setCtrl_feed (b c : Bool) (s : State) : (setCtrl b c s).feed = s.feed := rfl

/-! ### setAddr -/

@[simp] theorem setAddr_params (a : Byte) (s : State) : (setAddr a s).params = s.params := rfl

@[simp] theorem setAddr_strict (a : Byte) (s : State) : (setAddr a s).strict = s.strict := rfl

@[simp] theorem setAddr_crcSwap (a : Byte) (s : State) : (setAddr a s).crcSwap = s.crcSwap := rfl

@[simp] theorem setAddr_addr (a : Byte) (s : State) : (setAddr a s).addr = a := rfl

@[simp] theorem setAddr_link (a : Byte) (s : State) : (setAddr a s).link = s.link := rfl

@[simp] theorem setAddr_valid (a : Byte) (s : State) : (setAddr a s).valid = s.valid := rfl

@[simp] theorem setAddr_lastResult (a : Byte) (s : State) : (setAddr a s).lastResult = s.lastResult := rfl

@[simp] theorem setAddr_devSwitch (a : Byte) (s : State) : (setAddr a s).devSwitch = s.devSwitch := rfl

@[simp] theorem setAddr_devMode (a : Byte) (s : State) : (setAddr a s).devMode = s.devMode := rfl

@[simp] theorem setAddr_devVoltage (a : Byte) (s : State) : (setAddr a s).devVoltage = s.devVoltage := rfl

@[simp] theorem setAddr_devCurrent (a : Byte) (s : State) : (setAddr a s).devCurrent = s.devCurrent := rfl

@[simp] theorem setAddr_phase (a : Byte) (s : State) : (setAddr a s).phase = s.phase := rfl

@[simp] theorem setAddr_req (a : Byte) (s : State) : (setAddr a s).req = s.req := rfl

@[simp] theorem setAddr_res (a : Byte) (s : State) : (setAddr a s).res = s.res := rfl

@[simp] theorem setAddr_txbuf (a : Byte) (s : State) : (setAddr a s).txbuf = s.txbuf := rfl

@[simp] theorem setAddr_rxbuf (a : Byte) (s : State) : (setAddr a s).rxbuf = s.rxbuf := rfl

@[simp] theorem setAddr_timer (a : Byte) (s : State) : (setAddr a s).timer = s.timer := rfl

@[simp] theorem setAddr_history (a : Byte) (s : State) : (setAddr a s).history = s.history := rfl

@[simp] theorem setAddr_inbox (a : Byte) (s : State) : (setAddr a s).inbox = s.inbox := rfl

@[simp] theorem setAddr_returned (a : Byte) (s : State) : (setAddr a s).returned = s.returned := rfl

@[simp] theorem setAddr_feed (a : Byte) (s : State) : (setAddr a s).feed = s.feed := rfl

/-! ### turnaround -/

@[simp] theorem turnaround_params (s : State) : (turnaround s).params = s.params := rfl

@[simp] theorem turnaround_strict (s : State) : (turnaround s).strict = s.strict := rfl

@[simp] theorem turnaround_crcSwap (s : State) : (turnaround s).crcSwap = s.crcSwap := rfl

@[simp] theorem turnaround_addr (s : State) : (turnaround s).addr = s.addr := rfl

@[simp] theorem turnaround_link (s : State) : (turnaround s).link = s.link := rfl

@[simp] theorem turnaround_valid (s : State) : (turnaround s).valid = s.valid := rfl

@[simp] theorem turnaround_lastResult (s : State) : (turnaround s).lastResult = s.lastResult := rfl

@[simp] theorem turnaround_devSwitch (s : State) : (turnaround s).devSwitch = s.devSwitch := rfl

@[simp] theorem turnaround_devMode (s : State) : (turnaround s).devMode = s.devMode := rfl

@[simp] theorem turnaround_devVoltage (s : State) : (turnaround s).devVoltage = s.devVoltage := rfl

@[simp] theorem turnaround_devCurrent (s : State) : (turnaround s).devCurrent = s.devCurrent := rfl

@[simp] theorem turnaround_phase (s : State) : (turnaround s).phase = .rx := rfl

@[simp] theorem turnaround_req (s : State) : (turnaround s).req = s.req := rfl

@[simp] theorem turnaround_res (s : State) : (turnaround s).res = s.res := rfl

@[simp] theorem turnaround_txbuf (s : State) : (turnaround s).txbuf = s.txbuf := rfl

@[simp] theorem turnaround_rxbuf (s : State) : (turnaround s).rxbuf = s.rxbuf := rfl

@[simp] theorem turnaround_timer (s : State) : (turnaround s).timer = .stopped := rfl

@[simp] theorem turnaround_history (s : State) : (turnaround s).history = s.history ++ [.wait s.params.turnaround] := rfl

@[simp] theorem turnaround_inbox (s : State) : (turnaround s).inbox = s.inbox := rfl

@[simp] theorem turnaround_returned (s : State) : (turnaround s).returned = s.returned := rfl

@[simp] theorem turnaround_feed (s : State) : (turnaround s).feed = s.feed := rfl

/-! ### loadFrame -/

@[simp] theorem loadFrame_params (f : Bytes) (s : State) : (loadFrame f s).params = s.params := rfl

@[simp] theorem loadFrame_strict (f : Bytes) (s : State) : (loadFrame f s).strict = s.strict := rfl

@[simp] theorem loadFrame_crcSwap (f : Bytes) (s : State) : (loadFrame f s).crcSwap = s.crcSwap := rfl

@[simp] theorem loadFrame_addr (f : Bytes) (s : State) : (loadFrame f s).addr = s.addr := rfl

@[simp] theorem loadFrame_link (f : Bytes) (s : State) : (loadFrame f s).link = s.link := rfl

@[simp] theorem loadFrame_valid (f : Bytes) (s : State) : (loadFrame f s).valid = s.valid := rfl

@[simp] theorem loadFrame_lastResult (f : Bytes) (s : State) : (loadFrame f s).lastResult = s.lastResult := rfl

@[simp] theorem loadFrame_devSwitch (f : Bytes) (s : State) : (loadFrame f s).devSwitch = s.devSwitch := rfl

@[simp] theorem loadFrame_devMode (f : Bytes) (s : State) : (loadFrame f s).devMode = s.devMode := rfl

@[simp] theorem loadFrame_devVoltage (f : Bytes) (s : State) : (loadFrame f s).devVoltage = s.devVoltage := rfl

@[simp] theorem loadFrame_devCurrent (f : Bytes) (s : State) : (loadFrame f s).devCurrent = s.devCurrent := rfl

@[simp] theorem loadFrame_phase (f : Bytes) (s : State) : (loadFrame f s).phase = .tx := rfl

@[simp] theorem loadFrame_req (f : Bytes) (s : State) : (loadFrame f s).req = s.req := rfl

@[simp] theorem loadFrame_res (f : Bytes) (s : State) : (loadFrame f s).res = Result.blank := rfl

@[simp] theorem loadFrame_txbuf (f : Bytes) (s : State) : (loadFrame f s).txbuf = memWriteBytes s.txbuf 0 f := rfl

@[simp] theorem loadFrame_rxbuf (f : Bytes) (s : State) : (loadFrame f s).rxbuf = s.rxbuf := rfl

@[simp] theorem loadFrame_timer (f : Bytes) (s : State) : (loadFrame f s).timer = s.timer := rfl

@[simp] theorem loadFrame_history (f : Bytes) (s : State) : (loadFrame f s).history = s.history := rfl

@[simp] theorem loadFrame_inbox (f : Bytes) (s : State) : (loadFrame f s).inbox = s.inbox := rfl

@[simp] theorem loadFrame_returned (f : Bytes) (s : State) : (loadFrame f s).returned = s.returned := rfl

@[simp] theorem loadFrame_feed (f : Bytes) (s : State) : (loadFrame f s).feed = s.feed := rfl

/-! ### updateState -/

@[simp] theorem updateState_params (r : Bytes) (s : State) : (updateState r s).params = s.params := rfl

@[simp] theorem updateState_strict (r : Bytes) (s : State) : (updateState r s).strict = s.strict := rfl

@[simp] theorem updateState_crcSwap (r : Bytes) (s : State) : (updateState r s).crcSwap = s.crcSwap := rfl

@[simp] theorem updateState_addr (r : Bytes) (s : State) : (updateState r s).addr = s.addr := rfl

@[simp] theorem updateState_link (r : Bytes) (s : State) : (updateState r s).link = s.link := rfl

@[simp] theorem updateState_valid (r : Bytes) (s : State) : (updateState r s).valid = true := rfl

@[simp] theorem updateState_lastResult (r : Bytes) (s : State) : (updateState r s).lastResult = s.lastResult := rfl

@[simp] theorem updateState_devSwitch (r : Bytes) (s : State) : (updateState r s).devSwitch = (decodeStatus s.params r).switch := rfl

@[simp] theorem updateState_devMode (r : Bytes) (s : State) : (updateState r s).devMode = (decodeStatus s.params r).mode := rfl

@[simp] theorem updateState_devVoltage (r : Bytes) (s : State) : (updateState r s).devVoltage = (decodeStatus s.params r).voltage := rfl

@[simp] theorem updateState_devCurrent (r : Bytes) (s : State) : (updateState r s).devCurrent = (decodeStatus s.params r).current := rfl

@[simp] theorem updateState_phase (r : Bytes) (s : State) : (updateState r s).phase = s.phase := rfl

@[simp] theorem updateState_req (r : Bytes) (s : State) : (updateState r s).req = s.req := rfl

@[simp] theorem updateState_res (r : Bytes) (s : State) : (updateState r s).res = s.res := rfl

@[simp] theorem updateState_txbuf (r : Bytes) (s : State) : (updateState r s).txbuf = s.txbuf := rfl

@[simp] theorem updateState_rxbuf (r : Bytes) (s : State) : (updateState r s).rxbuf = s.rxbuf := rfl

@[simp] theorem updateState_timer (r : Bytes) (s : State) : (updateState r s).timer = s.timer := rfl

@[simp] theorem updateState_history (r : Bytes) (s : State) : (updateState r s).history = s.history := rfl

@[simp] theorem updateState_inbox (r : Bytes) (s : State) : (updateState r s).inbox = s.inbox := rfl

@[simp] theorem updateState_returned (r : Bytes) (s : State) : (updateState r s).returned = s.returned := rfl

@[simp] theorem updateState_feed (r : Bytes) (s : State) : (updateState r s).feed = s.feed := rfl

/-! ### blockReset -/

@[simp] theorem blockReset_params (s : State) : (blockReset s).params = s.params := rfl

@[simp] theorem blockReset_strict (s : State) : (blockReset s).strict = s.params.strictReset := rfl

@[simp] theorem blockReset_crcSwap (s : State) : (blockReset s).crcSwap = s.params.crcSwapReset := rfl

@[simp] theorem blockReset_addr (s : State) : (blockReset s).addr = 0#8 := rfl

@[simp] theorem blockReset_link (s : State) : (blockReset s).link = .closed := rfl

@[simp] theorem blockReset_valid (s : State) : (blockReset s).valid = false := rfl

@[simp] theorem blockReset_lastResult (s : State) : (blockReset s).lastResult = { err := 0#3, warn := false, reason := 0#8 } := rfl

@[simp] theorem blockReset_devSwitch (s : State) : (blockReset s).devSwitch = 0#1 := rfl

@[simp] theorem blockReset_devMode (s : State) : (blockReset s).devMode = 0#3 := rfl

@[simp] theorem blockReset_devVoltage (s : State) : (blockReset s).devVoltage = 0#24 := rfl

@[simp] theorem blockReset_devCurrent (s : State) : (blockReset s).devCurrent = 0#24 := rfl

@[simp] theorem blockReset_phase (s : State) : (blockReset s).phase = .idle := rfl

@[simp] theorem blockReset_req (s : State) : (blockReset s).req = none := rfl

@[simp] theorem blockReset_res (s : State) : (blockReset s).res = Result.blank := rfl

@[simp] theorem blockReset_txbuf (s : State) : (blockReset s).txbuf = [] := rfl

@[simp] theorem blockReset_rxbuf (s : State) : (blockReset s).rxbuf = [] := rfl

@[simp] theorem blockReset_timer (s : State) : (blockReset s).timer = .stopped := rfl

@[simp] theorem blockReset_history (s : State) : (blockReset s).history = s.history := rfl

@[simp] theorem blockReset_inbox (s : State) : (blockReset s).inbox = s.inbox := rfl

@[simp] theorem blockReset_returned (s : State) : (blockReset s).returned = s.returned := rfl

@[simp] theorem blockReset_feed (s : State) : (blockReset s).feed = s.feed := rfl

/-! ### The sampled configuration after record -/

@[simp] theorem reqStrict_record (e : Event) (s : State) : reqStrict (record e s) = reqStrict s := rfl

@[simp] theorem reqSwap_record (e : Event) (s : State) : reqSwap (record e s) = reqSwap s := rfl

@[simp] theorem reqAddr_record (e : Event) (s : State) : reqAddr (record e s) = reqAddr s := rfl

@[simp] theorem isCsrRead_record (e : Event) (s : State) : isCsrRead (record e s) = isCsrRead s := rfl

/-! ### The sampled configuration after setFeed -/

@[simp] theorem reqStrict_setFeed (f : Feed) (s : State) : reqStrict (setFeed f s) = reqStrict s := rfl

@[simp] theorem reqSwap_setFeed (f : Feed) (s : State) : reqSwap (setFeed f s) = reqSwap s := rfl

@[simp] theorem reqAddr_setFeed (f : Feed) (s : State) : reqAddr (setFeed f s) = reqAddr s := rfl

@[simp] theorem isCsrRead_setFeed (f : Feed) (s : State) : isCsrRead (setFeed f s) = isCsrRead s := rfl

/-! ### The sampled configuration after raise -/

@[simp] theorem reqStrict_raise (e : OpError) (s : State) : reqStrict (raise e s) = reqStrict s := rfl

@[simp] theorem reqSwap_raise (e : OpError) (s : State) : reqSwap (raise e s) = reqSwap s := rfl

@[simp] theorem reqAddr_raise (e : OpError) (s : State) : reqAddr (raise e s) = reqAddr s := rfl

@[simp] theorem isCsrRead_raise (e : OpError) (s : State) : isCsrRead (raise e s) = isCsrRead s := rfl

/-! ### The sampled configuration after succeed -/

@[simp] theorem reqStrict_succeed (v : Word) (d : Bytes) (s : State) : reqStrict (succeed v d s) = reqStrict s := rfl

@[simp] theorem reqSwap_succeed (v : Word) (d : Bytes) (s : State) : reqSwap (succeed v d s) = reqSwap s := rfl

@[simp] theorem reqAddr_succeed (v : Word) (d : Bytes) (s : State) : reqAddr (succeed v d s) = reqAddr s := rfl

@[simp] theorem isCsrRead_succeed (v : Word) (d : Bytes) (s : State) : isCsrRead (succeed v d s) = isCsrRead s := rfl

/-! ### The sampled configuration after buildTx -/

@[simp] theorem reqStrict_buildTx (f : Bytes) (s : State) : reqStrict (buildTx f s) = reqStrict s := rfl

@[simp] theorem reqSwap_buildTx (f : Bytes) (s : State) : reqSwap (buildTx f s) = reqSwap s := rfl

@[simp] theorem reqAddr_buildTx (f : Bytes) (s : State) : reqAddr (buildTx f s) = reqAddr s := rfl

@[simp] theorem isCsrRead_buildTx (f : Bytes) (s : State) : isCsrRead (buildTx f s) = isCsrRead s := rfl

/-! ### The sampled configuration after sealTx -/

@[simp] theorem reqStrict_sealTx (n : Nat) (s : State) : reqStrict (sealTx n s) = reqStrict s := rfl

@[simp] theorem reqSwap_sealTx (n : Nat) (s : State) : reqSwap (sealTx n s) = reqSwap s := rfl

@[simp] theorem reqAddr_sealTx (n : Nat) (s : State) : reqAddr (sealTx n s) = reqAddr s := rfl

@[simp] theorem isCsrRead_sealTx (n : Nat) (s : State) : isCsrRead (sealTx n s) = isCsrRead s := rfl

/-! ### The sampled configuration after setPhase -/

@[simp] theorem reqStrict_setPhase (p : Phase) (s : State) : reqStrict (setPhase p s) = reqStrict s := rfl

@[simp] theorem reqSwap_setPhase (p : Phase) (s : State) : reqSwap (setPhase p s) = reqSwap s := rfl

@[simp] theorem reqAddr_setPhase (p : Phase) (s : State) : reqAddr (setPhase p s) = reqAddr s := rfl

@[simp] theorem isCsrRead_setPhase (p : Phase) (s : State) : isCsrRead (setPhase p s) = isCsrRead s := rfl

/-! ### The sampled configuration after setWarn -/

@[simp] theorem reqStrict_setWarn (s : State) : reqStrict (setWarn s) = reqStrict s := rfl

@[simp] theorem reqSwap_setWarn (s : State) : reqSwap (setWarn s) = reqSwap s := rfl

@[simp] theorem reqAddr_setWarn (s : State) : reqAddr (setWarn s) = reqAddr s := rfl

@[simp] theorem isCsrRead_setWarn (s : State) : isCsrRead (setWarn s) = isCsrRead s := rfl

/-! ### The sampled configuration after startTimer -/

@[simp] theorem reqStrict_startTimer (s : State) : reqStrict (startTimer s) = reqStrict s := rfl

@[simp] theorem reqSwap_startTimer (s : State) : reqSwap (startTimer s) = reqSwap s := rfl

@[simp] theorem reqAddr_startTimer (s : State) : reqAddr (startTimer s) = reqAddr s := rfl

@[simp] theorem isCsrRead_startTimer (s : State) : isCsrRead (startTimer s) = isCsrRead s := rfl

/-! ### The sampled configuration after stopTimer -/

@[simp] theorem reqStrict_stopTimer (s : State) : reqStrict (stopTimer s) = reqStrict s := rfl

@[simp] theorem reqSwap_stopTimer (s : State) : reqSwap (stopTimer s) = reqSwap s := rfl

@[simp] theorem reqAddr_stopTimer (s : State) : reqAddr (stopTimer s) = reqAddr s := rfl

@[simp] theorem isCsrRead_stopTimer (s : State) : isCsrRead (stopTimer s) = isCsrRead s := rfl

/-! ### The sampled configuration after storeRx -/

@[simp] theorem reqStrict_storeRx (r : Bytes) (s : State) : reqStrict (storeRx r s) = reqStrict s := rfl

@[simp] theorem reqSwap_storeRx (r : Bytes) (s : State) : reqSwap (storeRx r s) = reqSwap s := rfl

@[simp] theorem reqAddr_storeRx (r : Bytes) (s : State) : reqAddr (storeRx r s) = reqAddr s := rfl

@[simp] theorem isCsrRead_storeRx (r : Bytes) (s : State) : isCsrRead (storeRx r s) = isCsrRead s := rfl

/-! ### The sampled configuration after turnaround -/

@[simp] theorem reqStrict_turnaround (s : State) : reqStrict (turnaround s) = reqStrict s := rfl

@[simp] theorem reqSwap_turnaround (s : State) : reqSwap (turnaround s) = reqSwap s := rfl

@[simp] theorem reqAddr_turnaround (s : State) : reqAddr (turnaround s) = reqAddr s := rfl

@[simp] theorem isCsrRead_turnaround (s : State) : isCsrRead (turnaround s) = isCsrRead s := rfl

/-! ### The sampled configuration after loadFrame -/

@[simp] theorem reqStrict_loadFrame (f : Bytes) (s : State) : reqStrict (loadFrame f s) = reqStrict s := rfl

@[simp] theorem reqSwap_loadFrame (f : Bytes) (s : State) : reqSwap (loadFrame f s) = reqSwap s := rfl

@[simp] theorem reqAddr_loadFrame (f : Bytes) (s : State) : reqAddr (loadFrame f s) = reqAddr s := rfl

@[simp] theorem isCsrRead_loadFrame (f : Bytes) (s : State) : isCsrRead (loadFrame f s) = isCsrRead s := rfl

/-! ### The sampled configuration after updateState -/

@[simp] theorem reqStrict_updateState (r : Bytes) (s : State) : reqStrict (updateState r s) = reqStrict s := rfl

@[simp] theorem reqSwap_updateState (r : Bytes) (s : State) : reqSwap (updateState r s) = reqSwap s := rfl

@[simp] theorem reqAddr_updateState (r : Bytes) (s : State) : reqAddr (updateState r s) = reqAddr s := rfl

@[simp] theorem isCsrRead_updateState (r : Bytes) (s : State) : isCsrRead (updateState r s) = isCsrRead s := rfl

/-! ### The sampled configuration after setLink -/

@[simp] theorem reqStrict_setLink (l : Link) (s : State) : reqStrict (setLink l s) = reqStrict s := rfl

@[simp] theorem reqSwap_setLink (l : Link) (s : State) : reqSwap (setLink l s) = reqSwap s := rfl

@[simp] theorem reqAddr_setLink (l : Link) (s : State) : reqAddr (setLink l s) = reqAddr s := rfl

@[simp] theorem isCsrRead_setLink (l : Link) (s : State) : isCsrRead (setLink l s) = isCsrRead s := rfl

end Sys2Proof.Machine
end

