-- ==== Sys2Proof/Laws/Memory.lean ====
section
/-! SUPPORT. The laws of the byte buffers: a read after a write, and the canonical form kept. -/

namespace Sys2Proof.Machine

theorem wf_iff (size : Nat) (m : Memory) :
    m.wf size = true ↔ (m.Pairwise fun x y => x.1 < y.1) ∧ ∀ c ∈ m, c.1 < size ∧ c.2 ≠ 0#8 := by
  simp [Memory.wf]

theorem wf_nil (size : Nat) : Memory.wf size [] = true := by simp [wf_iff]

theorem wf_tail {size : Nat} {c : Host.Cell} {m : Memory} (h : Memory.wf size (c :: m) = true) :
    m.wf size = true := by
  rw [wf_iff] at h ⊢
  exact ⟨(List.pairwise_cons.mp h.1).2, fun d hd => h.2 d (List.mem_cons_of_mem _ hd)⟩

/-- Below the first address of a canonical buffer every byte reads 0. -/
theorem memRead_below {size : Nat} {m : Memory} (h : m.wf size = true) (a : Nat) (ha : ∀ c ∈ m, a < c.1) :
    memRead m a = 0#8 := by
  induction m with
  | nil => rfl
  | cons c m ih =>
    have hc := ha c List.mem_cons_self
    simp only [memRead, Nat.ne_of_lt hc, if_false]
    exact ih (wf_tail h) fun d hd => ha d (List.mem_cons_of_mem _ hd)

theorem head_below {size : Nat} {c : Host.Cell} {m : Memory} (h : Memory.wf size (c :: m) = true) :
    ∀ d ∈ m, c.1 < d.1 := (List.pairwise_cons.mp ((wf_iff _ _).mp h).1).1

/-- Reading the byte just written. -/
theorem memRead_memWrite_same {size : Nat} {m : Memory} (h : m.wf size = true) (a : Nat) (v : Byte) :
    memRead (memWrite m a v) a = v := by
  induction m with
  | nil =>
    simp only [memWrite]
    split
    · next hv => exact hv.symm
    · simp [memRead]
  | cons c m ih =>
    obtain ⟨b, w⟩ := c
    have hb := head_below h
    simp only [memWrite]
    split
    · next hab =>
      have hz : memRead ((b, w) :: m) a = 0#8 := memRead_below h a fun d hd => by
        rcases List.mem_cons.mp hd with rfl | hd
        · exact hab
        · exact lt_trans hab (hb d hd)
      split
      · next hv => rw [hz, hv]
      · simp [memRead]
    · split
      · next hab =>
        subst hab
        split
        · next hv => rw [hv]; exact memRead_below (wf_tail h) a hb
        · simp [memRead]
      · next hne => simpa [memRead, hne] using ih (wf_tail h)

/-- A write leaves every other byte alone. -/
theorem memRead_memWrite_other (m : Memory) (a b : Nat) (v : Byte) (hab : b ≠ a) :
    memRead (memWrite m a v) b = memRead m b := by
  induction m with
  | nil => simp only [memWrite]; split <;> simp [memRead, hab]
  | cons c m ih =>
    obtain ⟨k, w⟩ := c
    simp only [memWrite]
    split
    · split
      · rfl
      · simp [memRead, hab]
    · split
      · next hak =>
        subst hak
        split <;> simp [memRead, hab]
      · by_cases hbk : b = k
        · simp [memRead, hbk]
        · simp [memRead, hbk, ih]

/-- A write puts no cell at an address that neither it nor the buffer names. -/
theorem mem_memWrite {m : Memory} {a : Nat} {v : Byte} {c : Host.Cell} (h : c ∈ memWrite m a v) :
    (c = (a, v) ∧ v ≠ 0#8) ∨ c ∈ m := by
  induction m with
  | nil =>
    simp only [memWrite] at h
    split at h
    · exact .inr h
    · next hv => exact .inl ⟨List.mem_singleton.mp h, hv⟩
  | cons d m ih =>
    obtain ⟨k, w⟩ := d
    simp only [memWrite] at h
    split at h
    · split at h
      · exact .inr h
      · next hv =>
        rcases List.mem_cons.mp h with rfl | h
        · exact .inl ⟨rfl, hv⟩
        · exact .inr h
    · split at h
      · split at h
        · exact .inr (List.mem_cons_of_mem _ h)
        · next hv =>
          rcases List.mem_cons.mp h with rfl | h
          · exact .inl ⟨rfl, hv⟩
          · exact .inr (List.mem_cons_of_mem _ h)
      · rcases List.mem_cons.mp h with rfl | h
        · exact .inr List.mem_cons_self
        · rcases ih h with h | h
          · exact .inl h
          · exact .inr (List.mem_cons_of_mem _ h)

/-- A write inside a canonical buffer keeps it canonical. -/
theorem memWrite_wf {size : Nat} {m : Memory} (h : m.wf size = true) {a : Nat} (v : Byte) (ha : a < size) :
    (memWrite m a v).wf size = true := by
  have hall : ∀ c ∈ memWrite m a v, c.1 < size ∧ c.2 ≠ 0#8 := fun c hc => by
    rcases mem_memWrite hc with ⟨rfl, hv⟩ | hc
    · exact ⟨ha, hv⟩
    · exact ((wf_iff _ _).mp h).2 c hc
  refine (wf_iff _ _).mpr ⟨?_, hall⟩
  clear hall
  induction m with
  | nil => simp only [memWrite]; split <;> simp
  | cons d m ih =>
    obtain ⟨k, w⟩ := d
    have hp := ((wf_iff _ _).mp h).1
    have hb := head_below h
    simp only [memWrite]
    split
    · next hak =>
      split
      · exact hp
      · refine List.pairwise_cons.mpr ⟨fun c hc => ?_, hp⟩
        rcases List.mem_cons.mp hc with rfl | hc
        · exact hak
        · exact lt_trans hak (hb c hc)
    · split
      · next hak =>
        subst hak
        split
        · exact (List.pairwise_cons.mp hp).2
        · exact List.pairwise_cons.mpr ⟨hb, (List.pairwise_cons.mp hp).2⟩
      · next hlt hne =>
        refine List.pairwise_cons.mpr ⟨fun c hc => ?_, ih (wf_tail h)⟩
        rcases mem_memWrite hc with ⟨rfl, -⟩ | hc
        · show k < a; omega
        · exact hb c hc

theorem memWriteBytes_wf {size : Nat} {m : Memory} (h : m.wf size = true) (a : Nat) (f : Bytes)
    (ha : a + f.length ≤ size) : (memWriteBytes m a f).wf size = true := by
  induction f generalizing m a with
  | nil => exact h
  | cons b f ih =>
    simp only [List.length_cons] at ha
    exact ih (memWrite_wf h b (by omega)) (a + 1) (by omega)

theorem memRead_memWriteBytes_other (m : Memory) (a b : Nat) (f : Bytes) (hb : b < a ∨ a + f.length ≤ b) :
    memRead (memWriteBytes m a f) b = memRead m b := by
  induction f generalizing m a with
  | nil => rfl
  | cons v f ih =>
    simp only [List.length_cons] at hb
    rw [memWriteBytes, ih _ _ (by omega), memRead_memWrite_other _ _ _ _ (by omega)]

theorem memRead_memWriteBytes {size : Nat} {m : Memory} (h : m.wf size = true) (a : Nat) (f : Bytes)
    (ha : a + f.length ≤ size) (k : Nat) (hk : k < f.length) :
    memRead (memWriteBytes m a f) (a + k) = f[k] := by
  induction f generalizing m a k with
  | nil => simp at hk
  | cons v f ih =>
    simp only [List.length_cons] at ha hk
    have hw := memWrite_wf h v (a := a) (by omega)
    rw [memWriteBytes]
    cases k with
    | zero => rw [memRead_memWriteBytes_other _ _ _ _ (by omega)]; simpa using memRead_memWrite_same h a v
    | succ k =>
      have := ih hw (a + 1) (by omega) k (by omega)
      rw [show a + (k + 1) = a + 1 + k by omega, this]; simp

@[simp] theorem memReadBytes_length (m : Memory) (a n : Nat) : (memReadBytes m a n).length = n := by
  simp [memReadBytes]

/-- MemRead after MemWrite at the same place (R18). -/
theorem memReadBytes_memWriteBytes {size : Nat} {m : Memory} (h : m.wf size = true) (a : Nat) (f : Bytes)
    (ha : a + f.length ≤ size) : memReadBytes (memWriteBytes m a f) a f.length = f := by
  refine List.ext_getElem (by simp) fun k h1 h2 => ?_
  simpa [memReadBytes] using memRead_memWriteBytes h a f ha k h2

/-- What a MemWrite from index 0 leaves. -/
theorem holds_memWriteBytes {size : Nat} {m : Memory} (h : m.wf size = true) (f : Bytes) (hf : f.length ≤ size) :
    holds (memWriteBytes m 0 f) f m :=
  ⟨memReadBytes_memWriteBytes h 0 f (by omega),
    fun a ha => memRead_memWriteBytes_other m 0 a f (by omega)⟩

/-! ### The canonical form under the operations that write a buffer -/

theorem buildTx_wf {s : State} (h : s.txbuf.wf maxFrame = true) (f : Bytes) (hf : f.length ≤ maxFrame) :
    (buildTx f s).txbuf.wf maxFrame = true := memWriteBytes_wf h 0 f (by omega)

theorem sealTx_wf {s : State} (h : s.txbuf.wf maxFrame = true) (n : Nat) (hn : n ≤ maxFrame) :
    (sealTx n s).txbuf.wf maxFrame = true :=
  memWriteBytes_wf h 0 _ (by simpa [sealCrc, insertCrc] using hn)

theorem loadFrame_wf {s : State} (h : s.txbuf.wf maxFrame = true) (f : Bytes) (hf : f.length ≤ maxFrame) :
    (loadFrame f s).txbuf.wf maxFrame = true := memWriteBytes_wf h 0 f (by omega)

theorem storeRx_wf {s : State} (h : s.rxbuf.wf statusLen = true) (r : Bytes) (hr : r.length ≤ statusLen) :
    (storeRx r s).rxbuf.wf statusLen = true := memWriteBytes_wf h 0 r (by omega)

theorem withFetchWord_wf {s : State} (h : s.txbuf.wf maxFrame = true) (nbits w : Nat) (f : Bytes)
    (he : encodingOfWord nbits w = .wire f) (hf : f.length ≤ maxFrame) :
    (s.withFetchWord nbits w).txbuf.wf maxFrame = true := by
  simpa [State.withFetchWord, placeEncoding, he] using memWriteBytes_wf h 0 f (by omega)

/-- The reset buffers are canonical. -/
theorem reset_buffers_wf : State.reset.txbuf.wf maxFrame = true ∧ State.reset.rxbuf.wf statusLen = true :=
  ⟨wf_nil _, wf_nil _⟩

end Sys2Proof.Machine
end

