-- ==== Sys2Proof/Laws/Ops.lean ====
section
/-! SUPPORT. What each shared operation can do, said once. -/

namespace Sys2Proof.Machine

/-! ### Transport answers -/

theorem freeRead_ok {k n : Nat} {r : Bytes} (h : freeRead k n = .ok r) : r.length = n := by
  unfold freeRead at h
  split at h
  · cases h
  · cases h; simp

/-- An Ok answer to T_READ(n) has n bytes (R64). -/
theorem feedRead_ok {n : Nat} {f : Feed} {r : Bytes} (h : feedRead n f = .ok r) : r.length = n := by
  unfold feedRead at h
  split at h
  · split at h
    · next hr => cases h; exact hr
    · exact freeRead_ok h
  · cases h
  · exact freeRead_ok h

/-! ### The sampled configuration -/

theorem reqStrict_congr {s t : State} (h : t.req = s.req) (h' : t.strict = s.strict) : reqStrict t = reqStrict s := by
  simp [reqStrict, h, h']

theorem reqSwap_congr {s t : State} (h : t.req = s.req) (h' : t.crcSwap = s.crcSwap) : reqSwap t = reqSwap s := by
  simp [reqSwap, h, h']

theorem reqAddr_congr {s t : State} (h : t.req = s.req) (h' : t.addr = s.addr) : reqAddr t = reqAddr s := by
  simp [reqAddr, h, h']

theorem isCsrRead_congr {s t : State} (h : t.req = s.req) : isCsrRead t = isCsrRead s := by
  simp [isCsrRead, h]

@[simp] theorem reqStrict_accept (r : Request) (s : State) : reqStrict (accept r s) = s.strict := rfl

@[simp] theorem reqSwap_accept (r : Request) (s : State) : reqSwap (accept r s) = s.crcSwap := rfl

@[simp] theorem reqAddr_accept (r : Request) (s : State) : reqAddr (accept r s) = s.addr := rfl

@[simp] theorem isCsrRead_accept (r : Request) (s : State) : isCsrRead (accept r s) = (r.opc == 0x04) := rfl

/-! ### The phases of a frame -/

/-- The four outcomes of check_frame_op, in its order (R114). -/
theorem checkFrameOp_cases (p : Bool) (s : State) :
    (reqAddr s = 0#8 ∧ checkFrameOp p s = raise .addrZero s) ∨
    (reqAddr s ≠ 0#8 ∧ s.link = .closed ∧ checkFrameOp p s = raise .notOpen s) ∨
    (reqAddr s ≠ 0#8 ∧ s.link = .opened ∧ p = false ∧ checkFrameOp p s = raise .badParam s) ∨
    (reqAddr s ≠ 0#8 ∧ s.link = .opened ∧ p = true ∧ checkFrameOp p s = setPhase .build s) := by
  unfold checkFrameOp
  by_cases ha : reqAddr s = 0#8
  · simp [ha]
  · cases hl : s.link <;> cases p <;> simp [ha]

/-- check_frame_op passes (R114). -/
theorem checkFrameOp_pass {s : State} (ha : reqAddr s ≠ 0#8) (hl : s.link = .opened) :
    checkFrameOp true s = setPhase .build s := by
  simp [checkFrameOp, ha, hl]

/-- T_WRITE answered true (R115). -/
theorem transmit_true {n : Nat} {s : State} (h : feedOk s.feed = true) :
    transmit n s =
      startTimer (record (.write (memReadBytes s.txbuf 0 n) true) (setFeed (afterOk s.feed) s)) := by
  simp [transmit, h]

/-- T_WRITE answered false (R115). -/
theorem transmit_false {n : Nat} {s : State} (h : feedOk s.feed = false) :
    transmit n s =
      raise .writeFail (record (.write (memReadBytes s.txbuf 0 n) false) (setFeed (afterOk s.feed) s)) := by
  simp [transmit, h]

/-- T_READ answered Ok (R115). -/
theorem receive_ok {cmd : WireCmd} {s : State} {r : Bytes} (h : feedRead (respLen cmd) s.feed = .ok r) :
    receive cmd s = storeRx r (record (.read (respLen cmd) (.ok r)) (setFeed (afterRead (respLen cmd) s.feed) s)) := by
  simp [receive, h]

/-- T_READ failed (R115). -/
theorem receive_fail {cmd : WireCmd} {s : State} {why : ReadFail} (h : feedRead (respLen cmd) s.feed = .fail why) :
    receive cmd s =
      raise (readError why) (record (.read (respLen cmd) (.fail why)) (setFeed (afterRead (respLen cmd) s.feed) s)) := by
  simp [receive, h]

/-- The malformed check and where the phase goes (R111, R116). -/
theorem verifyAck_cases (cmd : WireCmd) (s : State) :
    (cmd = .readRegisters ∧ verifyAck cmd s = setPhase .decode s) ∨
    (cmd ≠ .readRegisters ∧ ackMalformed s.params cmd (reqAddr s) (response cmd s) = true ∧
      verifyAck cmd s = raise .malformedAck s) ∨
    (cmd ≠ .readRegisters ∧ ackMalformed s.params cmd (reqAddr s) (response cmd s) = false ∧
      verifyAck cmd s = succeed 0#32 [] s) := by
  unfold verifyAck
  by_cases h : cmd = .readRegisters
  · simp [h]
  · cases hm : ackMalformed s.params cmd (reqAddr s) (response cmd s) <;> simp [h]

/-- The three outcomes of VERIFY (R116, R141). -/
theorem verifyResponse_cases (cmd : WireCmd) (s : State) :
    (crcMatches (response cmd s) (respLen cmd) (reqSwap s) = true ∧ verifyResponse cmd s = verifyAck cmd s) ∨
    (crcMatches (response cmd s) (respLen cmd) (reqSwap s) = false ∧ reqStrict s = true ∧
      verifyResponse cmd s = raise .crcMismatch s) ∨
    (crcMatches (response cmd s) (respLen cmd) (reqSwap s) = false ∧ reqStrict s = false ∧
      verifyResponse cmd s = verifyAck cmd (setWarn s)) := by
  unfold verifyResponse
  cases crcMatches (response cmd s) (respLen cmd) (reqSwap s) <;> cases reqStrict s <;> simp

/-- The courses of the phases TX to DECODE (R111): the write refused; the read failed; VERIFY ended the
operation; the status decoded. -/
theorem transact_cases (cmd : WireCmd) (n : Nat) (value : State → Word) (s : State) :
    (feedOk s.feed = false ∧ transact cmd n value s = transmit n s) ∨
    (feedOk s.feed = true ∧ (∃ why, feedRead (respLen cmd) (afterOk s.feed) = .fail why) ∧
      transact cmd n value s = receive cmd (turnaround (transmit n s))) ∨
    (feedOk s.feed = true ∧ (∃ r, feedRead (respLen cmd) (afterOk s.feed) = .ok r) ∧
      (verifyResponse cmd (receive cmd (turnaround (transmit n s)))).phase ≠ .decode ∧
      transact cmd n value s = verifyResponse cmd (receive cmd (turnaround (transmit n s)))) ∨
    (feedOk s.feed = true ∧ (∃ r, feedRead (respLen cmd) (afterOk s.feed) = .ok r) ∧
      (verifyResponse cmd (receive cmd (turnaround (transmit n s)))).phase = .decode ∧
      transact cmd n value s =
        decodeUpdate value (verifyResponse cmd (receive cmd (turnaround (transmit n s))))) := by
  cases hw : feedOk s.feed with
  | false => exact .inl ⟨rfl, by simp [transact, transmit_false hw]⟩
  | true =>
    have hp : (transmit n s).phase = .wait := by simp [transmit_true hw]
    have hf : (turnaround (transmit n s)).feed = afterOk s.feed := by simp [transmit_true hw]
    cases hr : feedRead (respLen cmd) (afterOk s.feed) with
    | fail why =>
      rw [← hf] at hr
      exact .inr (.inl ⟨rfl, ⟨why, rfl⟩, by simp [transact, hp, receive_fail hr]⟩)
    | ok r =>
      rw [← hf] at hr
      have hv : (receive cmd (turnaround (transmit n s))).phase = .verify := by simp [receive_ok hr]
      by_cases hd : (verifyResponse cmd (receive cmd (turnaround (transmit n s)))).phase = .decode
      · exact .inr (.inr (.inr ⟨rfl, ⟨r, rfl⟩, hd, by simp [transact, hp, hv, hd]⟩))
      · exact .inr (.inr (.inl ⟨rfl, ⟨r, rfl⟩, hd, by simp [transact, hp, hv, hd]⟩))

/-- The two courses of a frame-issuing operation (R111, R114). -/
theorem runFrameOp_cases (r : Request) (op : FrameOp) (s : State) :
    (∃ e, e ∈ [OpError.addrZero, .notOpen, .badParam] ∧
      runFrameOp r op s = finish (raise e (accept r s))) ∨
    (s.addr ≠ 0#8 ∧ s.link = .opened ∧ op.paramsOk = true ∧
      runFrameOp r op s =
        finish (transact op.cmd (op.layout s.addr).length op.value
          (sealTx (op.layout s.addr).length
            (buildTx (op.layout s.addr) (setPhase .build (accept r s)))))) := by
  rcases checkFrameOp_cases op.paramsOk (accept r s) with ⟨-, h⟩ | ⟨-, -, h⟩ | ⟨-, -, -, h⟩ | ⟨ha, hl, hp, h⟩
  · exact .inl ⟨.addrZero, by simp, by simp [runFrameOp, h]⟩
  · exact .inl ⟨.notOpen, by simp, by simp [runFrameOp, h]⟩
  · exact .inl ⟨.badParam, by simp, by simp [runFrameOp, h]⟩
  · refine .inr ⟨ha, by simpa using hl, hp, ?_⟩
    simp [runFrameOp, h]

/-! ### Completion -/

/-- The return of a host operation other than CSR_READ, in the statements' words. -/
theorem finish_eq_completed {s : State} (h : isCsrRead s = false) : finish s = completed s s.res := by
  simp [finish, completed, returnedIn, h]

/-- The return of CSR_READ. -/
theorem finish_eq_returnedIn {s : State} (h : isCsrRead s = true) : finish s = returnedIn s s.res := by
  simp [finish, returnedIn, h]

/-- An operation other than CSR_READ that succeeds with no other effect. -/
theorem finish_succeed_accept {r : Request} (hr : r.opc ≠ 0x04#8) (v : Word) (d : Bytes) (s : State) :
    finish (succeed v d (accept r s)) = completed s (okResult v d false) := by
  rw [finish_eq_completed (by simp [isCsrRead, accept, succeed, hr])]
  ext <;> simp [okResult, Result.blank]

/-- An operation other than CSR_READ that raises with no other effect. -/
theorem finish_raise_accept {r : Request} (hr : r.opc ≠ 0x04#8) (e : OpError) (s : State) :
    finish (raise e (accept r s)) = completed s (errorResult e false) := by
  rw [finish_eq_completed (by simp [isCsrRead, accept, raise, hr])]
  ext <;> simp [errorResult, Result.blank]

/-- CSR_READ that succeeds. -/
theorem finish_succeed_accept_csrRead {r : Request} (hr : r.opc = 0x04#8) (v : Word) (d : Bytes) (s : State) :
    finish (succeed v d (accept r s)) = returnedIn s (okResult v d false) := by
  rw [finish_eq_returnedIn (by simp [isCsrRead, accept, succeed, hr])]
  ext <;> simp [okResult, Result.blank, returnedIn]

/-- CSR_READ that raises. -/
theorem finish_raise_accept_csrRead {r : Request} (hr : r.opc = 0x04#8) (e : OpError) (s : State) :
    finish (raise e (accept r s)) = returnedIn s (errorResult e false) := by
  rw [finish_eq_returnedIn (by simp [isCsrRead, accept, raise, hr])]
  ext <;> simp [errorResult, Result.blank, returnedIn]

/-- A completion forgets the phase, REQ and RES it came from. -/
theorem completed_congr {s t : State} {r : Result}
    (h : { s with phase := .idle, req := none, res := r, lastResult := ⟨0#3, false, 0#8⟩ } =
      { t with phase := .idle, req := none, res := r, lastResult := ⟨0#3, false, 0#8⟩ }) :
    completed s r = completed t r := by
  simp only [State.mk.injEq] at h
  ext <;> simp [completed, returnedIn, h]

end Sys2Proof.Machine
end

