-- ==== Sys2Proof/Laws/Exchange.lean ====
section
/-! SUPPORT. The outcomes of the phases TX to DONE, one equation each: what a frame's exchange leaves, from the answers
it takes. -/

namespace Sys2Proof.Machine

/-- s once the n bytes of TXBUF are written, the wait has ended and r is read into RXBUF (R115). -/
abbrev answered (s : State) (cmd : WireCmd) (n : Nat) (r : Bytes) : State :=
  exchanged s cmd (memReadBytes s.txbuf 0 n) s.txbuf (memWriteBytes s.rxbuf 0 r)

/-- A refused T_WRITE (R115). -/
theorem finish_refused {cmd : WireCmd} {n : Nat} {value : State → Word} {s : State}
    (hc : isCsrRead s = false) (hw : s.res.warn = false) (h : feedOk s.feed = false) :
    finish (transact cmd n value s) =
      completed (writeRefused s (memReadBytes s.txbuf 0 n) s.txbuf) (errorResult .writeFail false) := by
  have e : transact cmd n value s = transmit n s := by simp [transact, transmit_false h]
  rw [e, transmit_false h, finish_eq_completed (by simpa using hc)]
  ext <;> simp [writeRefused, errorResult, hw]

/-- A failed T_READ (R115). -/
theorem finish_failed {cmd : WireCmd} {n : Nat} {value : State → Word} {s : State} {why : ReadFail}
    (hc : isCsrRead s = false) (hw : s.res.warn = false) (h : feedOk s.feed = true)
    (hr : feedRead (respLen cmd) (afterOk s.feed) = .fail why) :
    finish (transact cmd n value s) =
      completed (exchanged s cmd (memReadBytes s.txbuf 0 n) s.txbuf s.rxbuf) (errorResult (readError why) false) := by
  have hf : (turnaround (transmit n s)).feed = afterOk s.feed := by simp [transmit_true h]
  have e : transact cmd n value s = receive cmd (turnaround (transmit n s)) := by
    rw [← hf, transmit_true h] at hr
    simp [transact, transmit_true h, receive_fail hr]
  rw [e, receive_fail (by rw [hf]; exact hr), transmit_true h, finish_eq_completed (by simpa using hc)]
  ext <;> simp [exchanged, errorResult, hw, hr]

/-- The state in which VERIFY starts (R115). -/
theorem receive_turnaround_transmit {cmd : WireCmd} {n : Nat} {s : State} {r : Bytes} (h : feedOk s.feed = true)
    (hr : feedRead (respLen cmd) (afterOk s.feed) = .ok r) :
    receive cmd (turnaround (transmit n s)) = setPhase .verify (answered s cmd n r) := by
  have hf : (turnaround (transmit n s)).feed = afterOk s.feed := by simp [transmit_true h]
  rw [receive_ok (by rw [hf]; exact hr), transmit_true h]
  ext <;> simp [exchanged, hr, setPhase]

theorem respLen_le (cmd : WireCmd) : respLen cmd ≤ statusLen := by cases cmd <;> decide

/-- RXBUF gives back the response it was given (R18, R38). -/
theorem memReadBytes_response {cmd : WireCmd} {m : Memory} {r : Bytes} (hm : m.wf statusLen = true)
    (hr : r.length = respLen cmd) : memReadBytes (memWriteBytes m 0 r) 0 (respLen cmd) = r := by
  rw [← hr]
  exact memReadBytes_memWriteBytes hm 0 r (by rw [hr]; simpa using respLen_le cmd)

/-- The phases from VERIFY on, after an answered read (R111). -/
theorem transact_ok {cmd : WireCmd} {n : Nat} {value : State → Word} {s : State} {r : Bytes}
    (h : feedOk s.feed = true) (hr : feedRead (respLen cmd) (afterOk s.feed) = .ok r) :
    transact cmd n value s =
      let t := verifyResponse cmd (setPhase .verify (answered s cmd n r))
      if t.phase = .decode then decodeUpdate value t else t := by
  have hp : (transmit n s).phase = .wait := by simp [transmit_true h]
  simp only [transact, hp, if_true, receive_turnaround_transmit h hr, setPhase_phase]

/-- A strict mismatch (R116). -/
theorem finish_mismatch {cmd : WireCmd} {n : Nat} {value : State → Word} {s : State} {r : Bytes}
    (hrx : s.rxbuf.wf statusLen = true) (hc : isCsrRead s = false) (hw : s.res.warn = false)
    (h : feedOk s.feed = true) (hr : feedRead (respLen cmd) (afterOk s.feed) = .ok r)
    (hm : crcMatches r (respLen cmd) (reqSwap s) = false) (hs : reqStrict s = true) :
    finish (transact cmd n value s) = completed (answered s cmd n r) (errorResult .crcMismatch false) := by
  rw [transact_ok h hr]
  generalize hX : setPhase .verify (answered s cmd n r) = X
  have er : response cmd X = r := by subst hX; exact memReadBytes_response hrx (feedRead_ok hr)
  have esw : reqSwap X = reqSwap s := by subst hX; rfl
  have est : reqStrict X = reqStrict s := by subst hX; rfl
  have hcX : isCsrRead X = false := by subst hX; exact hc
  simp only [verifyResponse, er, esw, est, hm, hs, if_true, raise_phase, reduceCtorEq, if_false, Bool.false_eq_true]
  rw [finish_eq_completed (by simpa using hcX)]
  subst hX
  ext <;> simp [errorResult, hw, exchanged]

/-- VERIFY when the checksum lets the response through: warn tells a lenient mismatch (R116, R141). -/
theorem verifyResponse_pass {cmd : WireCmd} {s : State} (hw : s.res.warn = false)
    (h : crcMatches (response cmd s) (respLen cmd) (reqSwap s) = true ∨ reqStrict s = false) :
    verifyResponse cmd s =
      verifyAck cmd
        { s with res := { s.res with warn := !crcMatches (response cmd s) (respLen cmd) (reqSwap s) } } := by
  rcases verifyResponse_cases cmd s with ⟨a, b⟩ | ⟨a, b, -⟩ | ⟨a, -, c⟩
  · have e : { s.res with warn := !true } = s.res := by
      cases hq : s.res
      simp only [hq] at hw
      simp [hw]
    rw [b, a, e]
  · simp [a, b] at h
  · rw [c, a]
    rfl

/-- A write acknowledgement that the checksum lets through (R116, R118). -/
theorem finish_ack {cmd : WireCmd} {n : Nat} {value : State → Word} {s : State} {r : Bytes}
    (hne : cmd ≠ .readRegisters) (hrx : s.rxbuf.wf statusLen = true) (hc : isCsrRead s = false)
    (hw : s.res.warn = false) (h : feedOk s.feed = true)
    (hr : feedRead (respLen cmd) (afterOk s.feed) = .ok r)
    (hm : crcMatches r (respLen cmd) (reqSwap s) = true ∨ reqStrict s = false) :
    finish (transact cmd n value s) =
      completed (answered s cmd n r)
        (if ackMalformed s.params cmd (reqAddr s) r then
          errorResult .malformedAck (!crcMatches r (respLen cmd) (reqSwap s))
        else okResult 0#32 [] (!crcMatches r (respLen cmd) (reqSwap s))) := by
  have e := memReadBytes_response hrx (feedRead_ok hr)
  have er : response cmd (setPhase .verify (answered s cmd n r)) = r := e
  rw [transact_ok h hr]
  rw [verifyResponse_pass (s := setPhase .verify (answered s cmd n r)) hw (by rw [er]; exact hm), er]
  generalize hX : ({ setPhase .verify (answered s cmd n r) with res := _ } : State) = X
  have ep : X.params = s.params := by subst hX; rfl
  have ea : reqAddr X = reqAddr s := by subst hX; rfl
  have erX : response cmd X = r := by subst hX; exact e
  have hcX : isCsrRead X = false := by subst hX; exact hc
  rcases verifyAck_cases cmd X with ⟨q, -⟩ | ⟨-, q, k⟩ | ⟨-, q, k⟩
  · exact absurd q hne
  · rw [erX, ep, ea] at q
    simp only [k, raise_phase, reduceCtorEq, if_false, q, if_true]
    rw [finish_eq_completed (by simpa using hcX)]
    subst hX
    ext <;> simp [errorResult, exchanged, reqSwap]
  · rw [erX, ep, ea] at q
    simp only [k, succeed_phase, reduceCtorEq, if_false, q, Bool.false_eq_true]
    rw [finish_eq_completed (by simpa using hcX)]
    subst hX
    ext <;> simp [okResult, exchanged, reqSwap]

/-- A status response that the checksum lets through (R117, R118): w is the operation's value of the updated state. -/
theorem finish_status {n : Nat} {value : State → Word} {s : State} {r : Bytes} {w : Word}
    (hrx : s.rxbuf.wf statusLen = true) (hc : isCsrRead s = false) (hw : s.res.warn = false)
    (h : feedOk s.feed = true) (hr : feedRead (respLen .readRegisters) (afterOk s.feed) = .ok r)
    (hm : crcMatches r 23 (reqSwap s) = true ∨ reqStrict s = false)
    (hv : ∀ p q, value
      { withDevice (answered s .readRegisters n r) (decodeStatus s.params r) with phase := p, res := q } = w) :
    finish (transact .readRegisters n value s) =
      completed (withDevice (answered s .readRegisters n r) (decodeStatus s.params r))
        (okResult w [] (!crcMatches r 23 (reqSwap s))) := by
  have e := memReadBytes_response hrx (feedRead_ok hr)
  have er : response .readRegisters (setPhase .verify (answered s .readRegisters n r)) = r := e
  rw [transact_ok h hr]
  rw [verifyResponse_pass (s := setPhase .verify (answered s .readRegisters n r)) hw (by rw [er]; exact hm), er]
  generalize hX : ({ setPhase .verify (answered s .readRegisters n r) with res := _ } : State) = X
  have erX : response .readRegisters (setPhase .decode X) = r := by subst hX; exact e
  have hcX : isCsrRead X = false := by subst hX; exact hc
  simp only [verifyAck, if_true, setPhase_phase, decodeUpdate, erX]
  rw [finish_eq_completed (by simpa [isCsrRead, setPhase, succeed, updateState] using hcX)]
  have hval : value (updateState r (setPhase .decode X)) = w := by subst hX; exact hv _ _
  rw [hval]
  subst hX
  ext <;> simp [okResult, exchanged, reqSwap, withDevice, respLen]

end Sys2Proof.Machine
end

