-- ==== Sys2Proof/Laws/Frames.lean ====
section
/-! SUPPORT. The laws of sealed frames: what sealing keeps, and that every built frame decodes to a well-formed wire
command (R70 to R73, R99, R101 to R104). -/

namespace Sys2Proof.Machine

theorem sealFrame_length (f : Bytes) (sw : Bool) : (sealFrame f sw).length = f.length := by
  simp [sealFrame, sealCrc, insertCrc]

/-- The CRC depends on the bytes below its length only (R96). -/
theorem crcOf_take {m q : Bytes} {n : Nat} {sw : Bool} (h : m.take n = q.take n) : crcOf m n sw = crcOf q n sw := by
  simp [crcOf, crcRaw, h]

/-- Sealing a layout replaces its two placeholder bytes by the checksum (R104). -/
theorem sealFrame_append (b : Bytes) (sw : Bool) :
    sealFrame (b ++ [0#8, 0#8]) sw = b ++ be16 (crcOf (b ++ [0#8, 0#8]) b.length sw) := by
  have h0 : b.length + 2 - 2 = b.length := by omega
  have h1 : b.length + 2 - 1 = b.length + 1 := by omega
  simp only [sealFrame, sealCrc, insertCrc, List.length_append, List.length_cons, List.length_nil, h0, h1,
    Nat.zero_add, Nat.reduceAdd]
  rw [List.set_append_right _ _ (by omega), List.set_append_right _ _ (by omega)]
  simp [be16]

/-- A sealed F_RS frame decodes, and to a well-formed command for a non-zero address (R71, R101). -/
theorem decodeFrame_readStatus (a : Byte) (sw : Bool) (ha : a ≠ 0#8) :
    ∃ i, decodeFrame (sealFrame (layoutReadStatus a) sw) = .ok i ∧ i.wf = true ∧
      frameLength ((sealFrame (layoutReadStatus a) sw).take 6) = some (layoutReadStatus a).length := by
  have e := sealFrame_append ([a, 3#8] ++ be16 statusBankAddr ++ be16 0#16) sw
  have e' : layoutReadStatus a = [a, 3#8] ++ be16 statusBankAddr ++ be16 0#16 ++ [0#8, 0#8] := rfl
  refine ⟨.wireReadStatus a (crcOf (layoutReadStatus a) 6 sw), ?_, ?_, ?_⟩
  · rw [e', e]
    simp [be16, hiByte, loByte, statusBankAddr, decodeFrame, cmdByte, decodeReadStatus]
    exact hiByte_append_loByte _
  · have hl : (layoutReadStatus a).length = 8 := rfl
    simp only [Instr.wf, addrValid, crcValid, hl]
    cases sw <;> simp [ha]
  · rw [e', e]
    simp [be16, frameLength, byteAt, cmdByte]

/-- A sealed F_WS frame decodes, and to a well-formed command for a non-zero address (R72, R102). -/
theorem decodeFrame_writeSingle (a : Byte) (reg : Half) (v : Word) (sw : Bool) (ha : a ≠ 0#8) :
    ∃ i, decodeFrame (sealFrame (layoutWriteSingle a reg v) sw) = .ok i ∧ i.wf = true ∧
      frameLength ((sealFrame (layoutWriteSingle a reg v) sw).take 6) = some (layoutWriteSingle a reg v).length := by
  have e := sealFrame_append ([a, 6#8] ++ be16 reg ++ be16 1#16 ++ [4#8] ++ be32 v) sw
  have e' : layoutWriteSingle a reg v =
    [a, 6#8] ++ be16 reg ++ be16 1#16 ++ [4#8] ++ be32 v ++ [0#8, 0#8] := rfl
  refine ⟨.wireWriteSingle a reg v (crcOf (layoutWriteSingle a reg v) 11 sw), ?_, ?_, ?_⟩
  · have h1 : hiByte 1#16 = 0#8 := by decide
    have h2 : loByte 1#16 = 1#8 := by decide
    rw [e', e]
    simp [be16, h1, h2, be32, decodeFrame, cmdByte, decodeWriteSingle, append_be32, hiByte_append_loByte]
  · have hl : (layoutWriteSingle a reg v).length = 13 := rfl
    simp only [Instr.wf, addrValid, crcValid, hl]
    cases sw <;> simp [ha]
  · rw [e', e]
    simp [be16, be32, frameLength, byteAt, cmdByte]

/-- The guard of write_multiple in numbers (R103, R125). -/
theorem countOk_iff {c : Half} {vals : List Word} :
    countOk c vals = true ↔ 1 ≤ c.toNat ∧ c.toNat ≤ 63 ∧ vals.length = c.toNat := by
  simp only [countOk, Bool.and_eq_true, decide_eq_true_eq, beq_iff_eq, and_assoc]
  exact Iff.rfl

theorem layoutWriteMultiple_length (a : Byte) (start c : Half) (vals : List Word) :
    (layoutWriteMultiple a start c vals).length = 9 + 4 * vals.length := by
  simp [layoutWriteMultiple, be16, be32s_length]
  omega

/-- A sealed F_WM frame decodes, and to a well-formed command for a non-zero address (R73, R103). -/
theorem decodeFrame_writeMultiple (a : Byte) (start c : Half) (vals : List Word) (sw : Bool) (ha : a ≠ 0#8)
    (hc : countOk c vals = true) :
    ∃ i, decodeFrame (sealFrame (layoutWriteMultiple a start c vals) sw) = .ok i ∧ i.wf = true ∧
      frameLength ((sealFrame (layoutWriteMultiple a start c vals) sw).take 6) =
        some (layoutWriteMultiple a start c vals).length := by
  obtain ⟨h1, h2, h3⟩ := countOk_iff.mp hc
  have e := sealFrame_append ([a, 0x16#8] ++ be16 start ++ be16 c ++ [4#8 * loByte c] ++ be32s vals) sw
  have e' : layoutWriteMultiple a start c vals =
    [a, 0x16#8] ++ be16 start ++ be16 c ++ [4#8 * loByte c] ++ be32s vals ++ [0#8, 0#8] := rfl
  have hl : (layoutWriteMultiple a start c vals).length = 9 + 4 * c.toNat := by
    rw [layoutWriteMultiple_length, h3]
  have hlo : (loByte c).toNat = c.toNat := by
    simp [loByte]
    omega
  have hb : (4#8 * loByte c).toNat = 4 * c.toNat := by
    simp [BitVec.toNat_mul, hlo]
    omega
  have hof : BitVec.ofNat 16 vals.length = c := by rw [h3]; simp
  refine ⟨.wireWriteMultiple a start vals (crcOf (layoutWriteMultiple a start c vals) (7 + 4 * c.toNat) sw), ?_, ?_, ?_⟩
  · have hbl :
        ([a, 0x16#8] ++ be16 start ++ be16 c ++ [4#8 * loByte c] ++ be32s vals).length = 7 + 4 * c.toNat := by
      simp [be16, be32s_length, h3]
      omega
    rw [e', e, hbl]
    simp only [be16, List.cons_append, List.nil_append, decodeFrame, cmdByte]
    simp only [hiByte_append_loByte]
    rw [if_neg (by decide), if_neg (by decide), if_pos trivial]
    unfold decodeWriteMultiple
    rw [if_neg (by simp only [not_or, not_lt]; exact ⟨h1, h2⟩)]
    simp only [hb, ne_eq, not_true_eq_false, if_false]
    rw [← h3, takeWords_be32s]
    simp only [hiByte_append_loByte]
  · simp only [Instr.wf, addrValid, crcValid, valuesValid, hof]
    rw [hl, show 9 + 4 * c.toNat - 2 = 7 + 4 * c.toNat by omega, h3]
    simp only [Bool.and_eq_true, decide_eq_true_eq]
    exact ⟨⟨by simpa using ha, h1, h2⟩, by cases sw <;> simp⟩
  · rw [hl, e', e]
    simp [be16, frameLength, byteAt, cmdByte, hiByte_append_loByte]

end Sys2Proof.Machine
end

