-- ==== Sys2Proof/Laws/PerInstr.lean ====
section
/-! SUPPORT. The per-instruction family EncodedCode: an operation's encoding carries the code that the tables of
30_encoding.md R77 and R82 give its row. -/

namespace Sys2Proof.Laws.EncodedCode

open Sys2Proof Sys2Proof.Machine

/-- The code of an operation's row: a host opcode (R82) or a command byte (R77). -/
def code : Instr → Byte
  | .openPort _ _ => 0x01#8
  | .closePort => 0x02#8
  | .flushPort => 0x03#8
  | .csrRead _ => 0x04#8
  | .csrWrite _ _ => 0x05#8
  | .setCurrent _ => 0x10#8
  | .setPower _ => 0x11#8
  | .setResistance _ => 0x12#8
  | .setMode _ => 0x13#8
  | .setLoadSwitch _ => 0x14#8
  | .writeRegister _ _ => 0x15#8
  | .writeRegisters _ _ _ => 0x16#8
  | .getStatus => 0x20#8
  | .getCurrent => 0x21#8
  | .getVoltage => 0x22#8
  | .getMode => 0x23#8
  | .getSwitch => 0x24#8
  | .crcCompute _ _ => 0x30#8
  | .crcInsert _ _ _ => 0x31#8
  | .crcExtract _ _ => 0x32#8
  | .crcSet _ _ => 0x33#8
  | .crcVerify _ _ _ => 0x34#8
  | .buildReadStatus => 0x38#8
  | .buildWriteSingle _ _ => 0x39#8
  | .buildWriteMultiple _ _ _ => 0x3A#8
  | .decodeStatusBank _ => 0x3B#8
  | .wireReadStatus _ _ => 0x03#8
  | .wireWriteSingle _ _ _ _ => 0x06#8
  | .wireWriteMultiple _ _ _ _ => 0x16#8

/-- The encoding carries the row's code in its place: the opc field of a request record (R81), byte 1 of a frame
(R70). -/
def Statement (i : Instr) : Prop :=
  match encode i with
  | .host r => r.opc = code i
  | .wire f => f[1]? = some (code i)

theorem openPort (port : Bytes) (baud : Word) : Statement (.openPort port baud) := rfl

theorem closePort : Statement .closePort := rfl

theorem flushPort : Statement .flushPort := rfl

theorem csrRead (idx : Half) : Statement (.csrRead idx) := rfl

theorem csrWrite (idx : Half) (v : Word) : Statement (.csrWrite idx v) := rfl

theorem setCurrent (v : Word) : Statement (.setCurrent v) := rfl

theorem setPower (v : Word) : Statement (.setPower v) := rfl

theorem setResistance (v : Word) : Statement (.setResistance v) := rfl

theorem setMode (m : Word) : Statement (.setMode m) := rfl

theorem setLoadSwitch (v : Word) : Statement (.setLoadSwitch v) := rfl

theorem writeRegister (reg : Half) (v : Word) : Statement (.writeRegister reg v) := rfl

theorem writeRegisters (start : Half) (count : Half) (vals : List Word) : Statement (.writeRegisters start count vals) := rfl

theorem getStatus : Statement .getStatus := rfl

theorem getCurrent : Statement .getCurrent := rfl

theorem getVoltage : Statement .getVoltage := rfl

theorem getMode : Statement .getMode := rfl

theorem getSwitch : Statement .getSwitch := rfl

theorem crcCompute (d : Bytes) (n : Half) : Statement (.crcCompute d n) := rfl

theorem crcInsert (m : Bytes) (n : Half) (c : Half) : Statement (.crcInsert m n c) := rfl

theorem crcExtract (m : Bytes) (n : Half) : Statement (.crcExtract m n) := rfl

theorem crcSet (m : Bytes) (n : Half) : Statement (.crcSet m n) := rfl

theorem crcVerify (m : Bytes) (n : Half) (strict : Bool) : Statement (.crcVerify m n strict) := rfl

theorem buildReadStatus : Statement .buildReadStatus := rfl

theorem buildWriteSingle (reg : Half) (v : Word) : Statement (.buildWriteSingle reg v) := rfl

theorem buildWriteMultiple (start : Half) (count : Half) (vals : List Word) : Statement (.buildWriteMultiple start count vals) := rfl

theorem decodeStatusBank (r : Bytes) : Statement (.decodeStatusBank r) := rfl

theorem wireReadStatus (addr : Byte) (crc : Half) : Statement (.wireReadStatus addr crc) := rfl

theorem wireWriteSingle (addr : Byte) (reg : Half) (v : Word) (crc : Half) : Statement (.wireWriteSingle addr reg v crc) := rfl

theorem wireWriteMultiple (addr : Byte) (start : Half) (vals : List Word) (crc : Half) : Statement (.wireWriteMultiple addr start vals crc) := rfl

end Sys2Proof.Laws.EncodedCode
end

