-- ==== Sys2Proof/Tests/Slice0.lean ====
section
/-! SUPPORT. Tests of the model on the vectors of 95_test_vectors.md, and a witness for the hypotheses of every
statement. -/

namespace Sys2Proof.Tests

open Sys2Proof Sys2Proof.Machine

-- One theorem after another: each of the many small evaluations would otherwise hold a thread of its own.
set_option Elab.async false

/-- A state after reset with the "Config" of a vector (ADDR, link, STRICT, CRC_SWAP) and its transport's answers. -/
def cfg (a : Byte) (l : Link) (strict swap : Bool) (answers : List Answer) : State :=
  { State.reset with
    addr := a, link := l, strict := strict, crcSwap := swap, feed := { answers := answers, draws := 0 } }

/-- The answers of a complete exchange. -/
def exchange (r : Bytes) : List Answer := [.done true, .read (.ok r)]

/-- The state an operation leaves; reset where it stops. -/
def after (i : Instr) (s : State) : State :=
  match exec i s with
  | .next t => t
  | .fault _ => State.reset
  | .refused _ => State.reset

/-- Whether an operation answers a next state. -/
def runs (i : Instr) (s : State) : Bool :=
  match exec i s with
  | .next _ => true
  | .fault _ => false
  | .refused _ => false

/-- The state a step leaves; reset where it stops. -/
def stepped (s : State) : State :=
  match step s with
  | .next t => t
  | .fault _ => State.reset
  | .refused _ => State.reset

/-- The word LAST_RESULT of the state an operation leaves. -/
def last (i : Instr) (s : State) : Word := lastResultWord (after i s)

/-- The device-state registers (SWITCH, MODE, VOLTAGE, CURRENT). -/
def dev (s : State) : BitVec 1 × BitVec 3 × BitVec 24 × BitVec 24 :=
  (s.devSwitch, s.devMode, s.devVoltage, s.devCurrent)

/-- The frames written, oldest first. -/
def written (s : State) : List Bytes :=
  s.history.filterMap fun e => match e with
    | .write f _ => some f
    | _ => none

/-- Response A (V40). -/
def v40 : Bytes :=
  [0x01#8, 0x03#8, 0x12#8, 0x03#8, 0x00#8, 0x00#8, 0x2E#8, 0xE0#8, 0x00#8, 0x05#8, 0xDC#8, 0#8, 0#8, 0#8, 0#8, 0#8,
    0#8, 0#8, 0#8, 0#8, 0#8, 0x65#8, 0xD6#8]

/-- Response A with byte 5 changed (V9, E9). -/
def v9 : Bytes := v40.set 5 0x01#8

/-- Response B (V41). -/
def v41 : Bytes :=
  [0x01#8, 0x03#8, 0x12#8, 0x0F#8, 0x00#8, 0xFF#8, 0xFF#8, 0xFF#8, 0x00#8, 0x00#8, 0x00#8, 0#8, 0#8, 0#8, 0#8, 0#8,
    0#8, 0#8, 0#8, 0#8, 0#8, 0x9A#8, 0x80#8]

/-- Response C (V42). -/
def v42 : Bytes :=
  [0x01#8, 0x03#8, 0x12#8, 0x00#8, 0x00#8, 0x00#8, 0x13#8, 0x88#8, 0x00#8, 0x00#8, 0xFA#8, 0#8, 0#8, 0#8, 0#8, 0#8,
    0#8, 0#8, 0#8, 0#8, 0#8, 0xDC#8, 0x0B#8]

/-- Response D (V43). -/
def v43 : Bytes :=
  [0x01#8, 0x03#8, 0x12#8, 0x05#8, 0x00#8, 0x00#8, 0x2E#8, 0xE0#8, 0x00#8, 0x07#8, 0xD0#8, 0#8, 0#8, 0#8, 0#8, 0#8,
    0#8, 0#8, 0#8, 0#8, 0#8, 0x7B#8, 0xF0#8]

/-- The acknowledgement of S9. -/
def ackS9 : Bytes := [0x01#8, 0x06#8, 0x01#8, 0x16#8, 0x00#8, 0x01#8, 0x04#8, 0x7D#8, 0x32#8]

/-- The acknowledgement of E11, with a bad CRC. -/
def ackE11 : Bytes := [0x01#8, 0x06#8, 0x01#8, 0x16#8, 0x00#8, 0x01#8, 0x04#8, 0x00#8, 0x00#8]

/-- The acknowledgement of S16. -/
def ackS16 : Bytes := [0x01#8, 0x16#8, 0x01#8, 0x16#8, 0x00#8, 0x02#8, 0xF0#8, 0x29#8]

/-- The frame of V27. -/
def v27 : Bytes := [0x01#8, 0x03#8, 0x03#8, 0x00#8, 0x00#8, 0x00#8, 0x8E#8, 0x45#8]

/-- The frame of V30. -/
def v30 : Bytes :=
  [0x01#8, 0x06#8, 0x01#8, 0x16#8, 0x00#8, 0x01#8, 0x04#8, 0x00#8, 0x00#8, 0x07#8, 0xD0#8, 0x0C#8, 0x9D#8]

/-- The frame of V36. -/
def v36 : Bytes :=
  [0x01#8, 0x16#8, 0x01#8, 0x16#8, 0x00#8, 0x02#8, 0x08#8, 0x00#8, 0x00#8, 0x07#8, 0xD0#8, 0x12#8, 0x34#8, 0x56#8,
    0x78#8, 0x44#8, 0x20#8]

/-- The message of V24. -/
def v24 : Bytes := v27

/-- The ASCII bytes of V1. -/
def v1 : Bytes := [0x31#8, 0x32#8, 0x33#8, 0x34#8, 0x35#8, 0x36#8, 0x37#8, 0x38#8, 0x39#8]

/-! ### Well-formedness: each check refuses -/

theorem test_wf_accepts : (Instr.wireReadStatus 0x01#8 0x8E45#16).wf = true := by decide +kernel

theorem test_wf_refuses_address_zero : (Instr.wireReadStatus 0x00#8 0x5F44#16).wf = false := by decide +kernel

theorem test_wf_refuses_no_value : (Instr.wireWriteMultiple 0x01#8 0x0116#16 [] 0x0000#16).wf = false := by
  decide +kernel

theorem test_wf_refuses_64_values :
    (Instr.wireWriteMultiple 0x01#8 0x0116#16 (List.replicate 64 0#32) 0x0000#16).wf = false := by decide +kernel

theorem test_wf_refuses_wrong_checksum : (Instr.wireReadStatus 0x01#8 0x8E46#16).wf = false := by decide +kernel

theorem test_wf_accepts_swapped_checksum : (Instr.wireReadStatus 0x01#8 0x458E#16).wf = true := by decide +kernel

/-! ### Decoding words written out from the encoding tables -/

/-- R82: the codes of the link and register operations. -/
theorem test_decode_link :
    ([0x01, 0x02, 0x03, 0x04, 0x05].map (decodeTableWord 8)) =
      [some (.openPort [] 0#32), some .closePort, some .flushPort, some (.csrRead 0#16),
        some (.csrWrite 0#16 0#32)] := by decide +kernel

/-- R82: the codes of the register write operations. -/
theorem test_decode_writes :
    ([0x10, 0x11, 0x12, 0x13, 0x14, 0x15, 0x16].map (decodeTableWord 8)) =
      [some (.setCurrent 0#32), some (.setPower 0#32), some (.setResistance 0#32), some (.setMode 0#32),
        some (.setLoadSwitch 0#32), some (.writeRegister 0#16 0#32), some (.writeRegisters 0#16 0#16 [])] := by
  decide +kernel

/-- R82: the codes of the status-bank operations. -/
theorem test_decode_status :
    ([0x20, 0x21, 0x22, 0x23, 0x24].map (decodeTableWord 8)) =
      [some .getStatus, some .getCurrent, some .getVoltage, some .getMode, some .getSwitch] := by decide +kernel

/-- R82: the codes of the services. -/
theorem test_decode_services :
    ([0x30, 0x31, 0x32, 0x33, 0x34, 0x38, 0x39, 0x3A, 0x3B].map (decodeTableWord 8)) =
      [some (.crcCompute [] 0#16), some (.crcInsert [] 0#16 0#16), some (.crcExtract [] 0#16), some (.crcSet [] 0#16),
        some (.crcVerify [] 0#16 false), some .buildReadStatus, some (.buildWriteSingle 0#16 0#32),
        some (.buildWriteMultiple 0#16 0#16 []), some (.decodeStatusBank [])] := by decide +kernel

/-- R85: reserved codes are refused by name. -/
theorem test_decode_reserved :
    [0x00#8, 0x06#8, 0x0F#8, 0x17#8, 0x1F#8, 0x25#8, 0x2F#8, 0x35#8, 0x37#8, 0x3C#8, 0xFF#8].all (fun b =>
      reservedOpcode b && decide (decodeRequest { opc := b } = .error (.reservedOpcode b))) = true := by decide +kernel

/-- R81: a record's fields, each at its place. -/
theorem test_decode_fields :
    decodeTableWord 56 0x12345678011604 = some (.csrRead 0x0116#16) ∧
    decodeTableWord 56 0x12345678011615 = some (.writeRegister 0x0116#16 0x12345678#32) := by decide +kernel

/-- R71: the bytes of V27. -/
theorem test_decode_wire_read : decodeFrame v27 = .ok (.wireReadStatus 0x01#8 0x8E45#16) := by decide +kernel

/-- R72: the bytes of V30. -/
theorem test_decode_wire_write_single :
    decodeFrame v30 = .ok (.wireWriteSingle 0x01#8 0x0116#16 2000#32 0x0C9D#16) := by decide +kernel

/-- R73: the bytes of V36. -/
theorem test_decode_wire_write_multiple :
    decodeFrame v36 = .ok (.wireWriteMultiple 0x01#8 0x0116#16 [2000#32, 0x12345678#32] 0x4420#16) := by
  decide +kernel

/-- R77, R78, R89: each rejection of a frame. -/
theorem test_decode_frame_rejects :
    decodeFrame [0x01#8] = .error .shortFrame ∧
    decodeFrame (v27.set 1 0x10#8) = .error (.unknownCommand 0x10#8) ∧
    decodeFrame (v27.set 3 0x01#8) = .error (.badRegister 0x0301#16) ∧
    decodeFrame (v27.set 5 0x01#8) = .error (.badCount 0x0001#16) ∧
    decodeFrame (v36.set 6 0x04#8) = .error (.badByteCount 0x04#8) ∧
    decodeFrame (v36 ++ [0x00#8]) = .error .badLength := by decide +kernel

/-! ### Running an instruction where step fetches it -/

/-- A host operation presented to the reset block. -/
theorem test_fetch_host :
    stepped (State.reset.withFetchWord 8 0x20) = after .getStatus State.reset ∧
      last .getStatus State.reset = 0x0101#32 := by decide +kernel

/-- The bytes of V27 in TXBUF, the first byte in the low bits. -/
theorem test_fetch_wire :
    fetchFrame (State.reset.withFetchWord 64 0x458E000000030301) = some v27 := by decide +kernel

/-! ### The checksum unit -/

/-- V1, V2, V12. -/
theorem test_crc_vectors :
    crcRaw v1 9 = 0x4B37#16 ∧ crcRaw [] 0 = 0xFFFF#16 ∧ crcRaw v30 11 = 0x0C9D#16 ∧ crcOf v1 9 true = 0x374B#16 := by
  decide +kernel

theorem test_crc_compute_swap :
    (after (.crcCompute v30 11#16) (cfg 0#8 .closed true true [])).res.value = 0x9D0C#32 := by decide +kernel

/-- V17. -/
theorem test_crc_compute_guard :
    last (.crcCompute [0x01#8] 2#16) (cfg 0#8 .closed true false []) = 0x0301#32 := by decide +kernel

/-- V19. -/
theorem test_crc_insert :
    (after (.crcInsert [0x11#8, 0x22#8, 0x33#8, 0x44#8, 0x55#8] 3#16 0x0102#16) (cfg 0#8 .closed true true [])).res.data =
      [0x11#8, 0x01#8, 0x02#8, 0x44#8, 0x55#8] := by decide +kernel

/-- V26c. -/
theorem test_crc_insert_guard :
    last (.crcInsert (List.replicate 262 0#8) 4#16 0xABCD#16) State.reset = 0x0301#32 := by decide +kernel

/-- V21. -/
theorem test_crc_extract :
    (after (.crcExtract [0x11#8, 0x01#8, 0x02#8, 0x44#8, 0x55#8] 3#16) (cfg 0#8 .closed true true [])).res.value =
      0x0102#32 := by decide +kernel

/-- V22. -/
theorem test_crc_extract_guard : last (.crcExtract [0xAB#8] 1#16) State.reset = 0x0301#32 := by decide +kernel

/-- V23a. -/
theorem test_crc_set_swap :
    (after (.crcSet [0x01#8, 0x03#8, 0x03#8, 0#8, 0#8, 0#8, 0#8, 0#8] 8#16) (cfg 0#8 .closed true true [])).res.data =
      [0x01#8, 0x03#8, 0x03#8, 0#8, 0#8, 0#8, 0x45#8, 0x8E#8] := by decide +kernel

/-- V23b. -/
theorem test_crc_set_two :
    (after (.crcSet [0x12#8, 0x34#8] 2#16) State.reset).res.data = [0xFF#8, 0xFF#8] := by decide +kernel

/-- V26. -/
theorem test_crc_verify_lenient :
    last (.crcVerify (v24.set 0 0x02#8) 8#16 false) State.reset = 0x0008#32 := by decide +kernel

/-- V26a. -/
theorem test_crc_verify_swap :
    last (.crcVerify v24 8#16 true) (cfg 0#8 .closed false true []) = 0x0103#32 := by decide +kernel

/-! ### The frame codec -/

/-- V29. -/
theorem test_build_read_status :
    (after .buildReadStatus State.reset).res.data =
      [0x00#8, 0x03#8, 0x03#8, 0x00#8, 0x00#8, 0x00#8, 0x5F#8, 0x44#8] := by decide +kernel

/-- R108's example. -/
theorem test_build_write_single :
    (after (.buildWriteSingle 0x0116#16 2000#32) (cfg 1#8 .closed true true [])).res.data =
      v30.take 11 ++ [0x9D#8, 0x0C#8] := by decide +kernel

/-- V35. -/
theorem test_build_write_multiple :
    (after (.buildWriteMultiple 0x010E#16 1#16 [1#32]) (cfg 2#8 .closed true false [])).res.data =
      [0x02#8, 0x16#8, 0x01#8, 0x0E#8, 0#8, 0x01#8, 0x04#8, 0#8, 0#8, 0#8, 0x01#8, 0x1B#8, 0x51#8] := by decide +kernel

/-- V38. -/
theorem test_build_write_multiple_guard :
    last (.buildWriteMultiple 0x0116#16 2#16 [1#32]) State.reset = 0x0301#32 := by decide +kernel

/-- V46. -/
theorem test_decode_status_bank :
    (after (.decodeStatusBank v40) State.reset).res.data =
      [0x01#8, 0x01#8, 0x00#8, 0x2E#8, 0xE0#8, 0x00#8, 0x05#8, 0xDC#8] := by decide +kernel

/-- V48: other offsets. -/
theorem test_decode_status_bank_offsets :
    decodeStatus { Params.canonical with offV := 11#5, offI := 14#5 }
        [0x01#8, 0x03#8, 0x12#8, 0x03#8, 0x00#8, 0x00#8, 0x2E#8, 0xE0#8, 0x00#8, 0x05#8, 0xDC#8, 0x00#8, 0x13#8, 0x88#8,
          0x00#8, 0x00#8, 0xFA#8, 0#8, 0#8, 0#8, 0#8, 0x87#8, 0xDE#8] =
      { switch := 1#1, mode := 1#3, voltage := 5000#24, current := 250#24 } := by decide +kernel

/-! ### Link and register operations -/

/-- S24. -/
theorem test_open :
    (after (.openPort [0x43#8, 0x4F#8, 0x4D#8, 0x31#8] 9600#32) (cfg 0#8 .closed true false [.done true])).history =
      [.openPort [0x43#8, 0x4F#8, 0x4D#8, 0x31#8] 9600#32 { dataBits := 8, parity := .none, stopBits := 1 } true] := by
  decide +kernel

/-- S23. -/
theorem test_open_fails :
    last (.openPort [0x43#8, 0x4F#8, 0x4D#8, 0x31#8] 9600#32) (cfg 0#8 .closed true false [.done false]) = 0x0102#32 := by
  decide +kernel

/-- S22. -/
theorem test_close :
    (after .closePort (cfg 1#8 .opened true false [])).link = .closed ∧
      (after .closePort (cfg 1#8 .opened true false [])).history = [.close] := by decide +kernel

/-- S20. -/
theorem test_close_closed : (after .closePort (cfg 1#8 .closed true false [])).history = [] := by decide +kernel

theorem test_flush : (after .flushPort (cfg 1#8 .opened true false [])).history = [.flush] := by decide +kernel

/-- S21. -/
theorem test_flush_closed : last .flushPort (cfg 1#8 .closed true false []) = 0x0201#32 := by decide +kernel

/-- K2. -/
theorem test_csr_read : (after (.csrRead 0x0008#16) State.reset).res.value = 0x00080503#32 := by decide +kernel

/-- K6: CSR_READ leaves LAST_RESULT, and reads it. -/
theorem test_csr_read_last :
    (after (.csrRead 0x0003#16) (after .getStatus State.reset)).res.value = 0x00000101#32 ∧
      last (.csrRead 0x0003#16) (after .getStatus State.reset) = 0x00000101#32 := by decide +kernel

/-- K3, K4. -/
theorem test_csr_write :
    ctrlWord (after (.csrWrite 0x0000#16 0xFFFFFFFF#32) State.reset) = 0x00000003#32 ∧
      addrWord (after (.csrWrite 0x0001#16 0x000001FF#32) State.reset) = 0x000000FF#32 := by decide +kernel

/-- E16. -/
theorem test_csr_write_read_only : last (.csrWrite 0x0002#16 1#32) State.reset = 0x0601#32 := by decide +kernel

/-! ### Register writes -/

/-- S9. -/
theorem test_set_current :
    written (after (.setCurrent 2000#32) (cfg 1#8 .opened true false (exchange ackS9))) = [v30] ∧
      last (.setCurrent 2000#32) (cfg 1#8 .opened true false (exchange ackS9)) = 0x0000#32 := by decide +kernel

/-- E14: a mismatch in lenient mode of an acknowledgement called malformed. -/
theorem test_set_current_malformed :
    last (.setCurrent 2000#32)
      { cfg 1#8 .opened false false (exchange ackE11) with
        params := { Params.canonical with malformedAcks := [{ command := 0x06#8, addr := 1#8, response := ackE11 }] } } =
      0x020C#32 := by decide +kernel

/-- R127's frame. -/
theorem test_set_power :
    written (after (.setPower 1234#32) (cfg 1#8 .opened true false (exchange ackS9))) =
      [[0x01#8, 0x06#8, 0x01#8, 0x1E#8, 0#8, 0x01#8, 0x04#8, 0#8, 0#8, 0x04#8, 0xD2#8, 0x9B#8, 0x1D#8]] := by
  decide +kernel

/-- R128's frame. -/
theorem test_set_resistance :
    written (after (.setResistance 0xFFFFFFFF#32) (cfg 1#8 .opened true false (exchange ackS9))) =
      [[0x01#8, 0x06#8, 0x01#8, 0x1A#8, 0#8, 0x01#8, 0x04#8, 0xFF#8, 0xFF#8, 0xFF#8, 0xFF#8, 0x61#8, 0x9F#8]] := by
  decide +kernel

/-- R129's frame. -/
theorem test_set_mode :
    written (after (.setMode 2#32) (cfg 1#8 .opened true false (exchange ackS9))) =
      [[0x01#8, 0x06#8, 0x01#8, 0x10#8, 0#8, 0x01#8, 0x04#8, 0#8, 0#8, 0#8, 0x02#8, 0x4B#8, 0x9F#8]] := by
  decide +kernel

/-- S13, E2, E3: the order of the checks. -/
theorem test_set_mode_checks :
    last (.setMode 4#32) (cfg 1#8 .opened true false []) = 0x0301#32 ∧
      last (.setMode 9#32) (cfg 0#8 .opened true false []) = 0x0101#32 ∧
      last (.setMode 9#32) (cfg 1#8 .closed true false []) = 0x0201#32 := by decide +kernel

/-- R130's frame; DEV_SWITCH is not written (S14). -/
theorem test_set_load_switch :
    written (after (.setLoadSwitch 1#32) (cfg 1#8 .opened true false (exchange ackS9))) =
      [[0x01#8, 0x06#8, 0x01#8, 0x0E#8, 0#8, 0x01#8, 0x04#8, 0#8, 0#8, 0#8, 0x01#8, 0xCA#8, 0x5F#8]] ∧
      (after (.setLoadSwitch 1#32) (cfg 1#8 .opened true false (exchange ackS9))).devSwitch = 0#1 := by decide +kernel

/-- S14. -/
theorem test_set_load_switch_check : last (.setLoadSwitch 2#32) (cfg 1#8 .opened true false []) = 0x0301#32 := by
  decide +kernel

/-- S15: byte swap on both frames. -/
theorem test_write_register_swap :
    written (after (.writeRegister 0x0116#16 2000#32)
        (cfg 1#8 .opened true true (exchange (ackS9.take 7 ++ [0x32#8, 0x7D#8])))) = [v30.take 11 ++ [0x9D#8, 0x0C#8]] ∧
      last (.writeRegister 0x0116#16 2000#32)
        (cfg 1#8 .opened true true (exchange (ackS9.take 7 ++ [0x32#8, 0x7D#8]))) = 0x0000#32 := by decide +kernel

/-- P3 step 12: a refused write. -/
theorem test_write_register_refused :
    last (.writeRegister 0x0116#16 2000#32) (cfg 1#8 .opened true false [.done false]) = 0x0202#32 ∧
      (after (.writeRegister 0x0116#16 2000#32) (cfg 1#8 .opened true false [.done false])).history =
        [.write v30 false] := by decide +kernel

/-- S16. -/
theorem test_write_registers :
    written (after (.writeRegisters 0x0116#16 2#16 [2000#32, 0x12345678#32])
        (cfg 1#8 .opened true false (exchange ackS16))) = [v36] ∧
      last (.writeRegisters 0x0116#16 2#16 [2000#32, 0x12345678#32])
        (cfg 1#8 .opened true false (exchange ackS16)) = 0x0000#32 := by decide +kernel

/-- S18. -/
theorem test_write_registers_guard :
    last (.writeRegisters 0x0116#16 64#16 (List.replicate 64 0#32)) (cfg 1#8 .opened true false []) = 0x0301#32 := by
  decide +kernel

/-! ### Status reads -/

/-- S1. -/
theorem test_get_status :
    dev (after .getStatus (cfg 1#8 .opened true false (exchange v40))) = (1#1, 1#3, 12000#24, 1500#24) ∧
      (after .getStatus (cfg 1#8 .opened true false (exchange v40))).history =
        [.write v27 true, .wait 100, .read 23 (.ok v40)] := by decide +kernel

/-- E9. -/
theorem test_get_status_mismatch :
    last .getStatus (cfg 1#8 .opened true false (exchange v9)) = 0x0103#32 ∧
      dev (after .getStatus (cfg 1#8 .opened true false (exchange v9))) = (0#1, 0#3, 0#24, 0#24) := by decide +kernel

/-- S2. -/
theorem test_get_current :
    (after .getCurrent (cfg 1#8 .opened true false (exchange v40))).res.value = 1500#32 := by decide +kernel

/-- E6, E7, E8: the three failures of a read. -/
theorem test_get_current_failures :
    last .getCurrent (cfg 1#8 .opened true false [.done true, .read (.fail .short)]) = 0x0104#32 ∧
      last .getCurrent (cfg 1#8 .opened true false [.done true, .read (.fail .io)]) = 0x0402#32 ∧
      last .getCurrent (cfg 1#8 .opened true false [.done true, .read (.fail .timeout)]) = 0x0302#32 := by
  decide +kernel

/-- S3. -/
theorem test_get_voltage :
    (after .getVoltage (cfg 1#8 .opened true false (exchange v42))).res.value = 5000#32 := by decide +kernel

/-- E10. -/
theorem test_get_voltage_lenient :
    (after .getVoltage (cfg 1#8 .opened false false (exchange v9))).res.value = 77536#32 ∧
      last .getVoltage (cfg 1#8 .opened false false (exchange v9)) = 0x0008#32 := by decide +kernel

/-- S4. -/
theorem test_get_mode :
    (after .getMode (cfg 1#8 .opened true false (exchange v43))).res.value = 2#32 := by decide +kernel

/-- S6 with mask 7. -/
theorem test_get_mode_mask :
    (after .getMode
      { cfg 1#8 .opened true false (exchange v41) with
        params := { Params.canonical with modeMask := 7#3 } }).res.value = 7#32 := by decide +kernel

/-- P2 step 4. -/
theorem test_get_switch :
    (after .getSwitch (cfg 1#8 .opened true false (exchange v43))).res.value = 1#32 := by decide +kernel

/-! ### Wire commands -/

/-- The GET_VOLTAGE of S3 from phase TX: its frame carried out for the operation in REQ. -/
def txS3 : State :=
  { accept { opc := 0x22#8 } (cfg 1#8 .opened true false (exchange v42)) with
    phase := .tx, txbuf := memWriteBytes [] 0 v27 }

theorem test_wire_read :
    (after (.wireReadStatus 0x01#8 0x8E45#16) txS3).res.value = 5000#32 ∧
      stepped txS3 = after (.wireReadStatus 0x01#8 0x8E45#16) txS3 := by decide +kernel

theorem test_wire_write_single :
    (after (.wireWriteSingle 0x01#8 0x0116#16 2000#32 0x0C9D#16) (cfg 1#8 .opened true false (exchange ackS9))).history =
      [.write v30 true, .wait 100, .read 9 (.ok ackS9)] := by decide +kernel

theorem test_wire_write_multiple :
    (after (.wireWriteMultiple 0x01#8 0x0116#16 [2000#32, 0x12345678#32] 0x4420#16)
        (cfg 1#8 .opened true false (exchange ackS16))).history =
      [.write v36 true, .wait 100, .read 8 (.ok ackS16)] := by decide +kernel

/-! ### Steps -/

/-- D41: a request presented while the block is busy is still there after the step. -/
theorem test_busy_waits :
    stepped { txS3 with inbox := [.request { opc := 0x02#8 }] } =
      { after (.wireReadStatus 0x01#8 0x8E45#16) txS3 with inbox := [.request { opc := 0x02#8 }] } := by
  decide +kernel

/-- R152: a reset in phase TX returns nothing and keeps the history. -/
theorem test_reset_in_tx :
    stepped { txS3 with inbox := [.reset], history := [.flush] } =
      { State.reset with history := [.flush], feed := { answers := exchange v42, draws := 0 } } := by
  decide +kernel

/-! ### Witnesses: concrete states and operands that meet the hypotheses of each statement -/

/-- An operation that runs answers the state `after` gives. -/
theorem exec_after {i : Instr} {s : State} (h : runs i s = true) : exec i s = .next (after i s) := by
  unfold runs at h
  unfold after
  split at h <;> simp_all

/-- Whether a step answers a next state. -/
def steps (s : State) : Bool :=
  match step s with
  | .next _ => true
  | .fault _ => false
  | .refused _ => false

/-- A step that runs answers the state `stepped` gives. -/
theorem step_stepped {s : State} (h : steps s = true) : step s = .next (stepped s) := by
  unfold steps at h
  unfold stepped
  split at h <;> simp_all

/-- The reset block with one event in its inbox. -/
def withEvent (e : HostEvent) : State := { State.reset with inbox := [e] }

/-- The block just after the acceptance of a GET_STATUS. -/
def accepted : State := accept { opc := 0x20#8 } State.reset

/-- An open block with address 1, strict, unswapped. -/
def ready (answers : List Answer) : State := cfg 1#8 .opened true false answers

/-- The same block in lenient mode. -/
def lenient (answers : List Answer) : State := cfg 1#8 .opened false false answers

/-- A build that calls the acknowledgements of S9 and E11 malformed, lenient. -/
def picky (answers : List Answer) : State :=
  { lenient answers with
    params :=
      { Params.canonical with
        malformedAcks :=
          [{ command := 0x06#8, addr := 1#8, response := ackS9 },
            { command := 0x06#8, addr := 1#8, response := ackE11 }] } }

theorem ready_admits (answers : List Answer) : Admits (ready answers) :=
  { addr := (by decide : (1#8 : Byte) ≠ 0#8), link := rfl, txbuf := rfl, rxbuf := rfl }

theorem lenient_admits (answers : List Answer) : Admits (lenient answers) :=
  { addr := (by decide : (1#8 : Byte) ≠ 0#8), link := rfl, txbuf := rfl, rxbuf := rfl }

theorem picky_admits (answers : List Answer) : Admits (picky answers) :=
  { addr := (by decide : (1#8 : Byte) ≠ 0#8), link := rfl, txbuf := rfl, rxbuf := rfl }

/-- A busy state that satisfies the invariant. -/
theorem accepted_inv : Inv accepted where
  params := by decide +kernel
  txbuf := by decide +kernel
  rxbuf := by decide +kernel
  req := by decide +kernel
  timer := by decide +kernel
  res := by decide +kernel
  last := by decide +kernel
  returned := by decide +kernel
  mode := by decide +kernel
  unread := by decide +kernel
  history := fun _ h => nomatch h
  busy := fun h => nomatch h
  sealing := fun h => nomatch h
  sending := fun h => nomatch h

theorem test_witness_StepRunsTheDecodedOperation_host :
    (withEvent (.request { opc := 0x20#8 })).phase = .idle ∧
      (withEvent (.request { opc := 0x20#8 })).inbox = .request { opc := 0x20#8 } :: [] ∧
      decode (.host { opc := 0x20#8 }) = .ok .getStatus := by decide +kernel

theorem test_witness_StepRunsTheDecodedOperation_wire :
    txS3.phase = .tx ∧ (∀ e rest, txS3.inbox = e :: rest → isPresented e = true) ∧
      fetchFrame txS3 = some v27 ∧ decode (.wire v27) = .ok (.wireReadStatus 0x01#8 0x8E45#16) ∧
      (Instr.wireReadStatus 0x01#8 0x8E45#16).wf = true :=
  ⟨rfl, fun _ _ h => (nomatch h), by decide +kernel, by decide +kernel, by decide +kernel⟩

theorem test_witness_ReservedOpcodeCompletesAtOnce :
    [0x00#8, 0x06#8, 0x0F#8, 0x17#8, 0x1F#8, 0x25#8, 0x2F#8, 0x35#8, 0x37#8, 0x3C#8, 0xFF#8].all (fun b =>
      decide ((withEvent (.request { opc := b })).phase = .idle) &&
        decide ((withEvent (.request { opc := b })).inbox = .request { opc := b } :: []) && reservedOpcode b) = true := by
  decide +kernel

theorem test_witness_BusyBlockHoldsTheRequest :
    let s := { accepted with inbox := [.request { opc := 0x02#8 }] }
    s.phase ≠ .idle ∧ isPresented (.request { opc := 0x02#8 }) = true ∧
      s.inbox = .request { opc := 0x02#8 } :: [] ∧ step s = .next (stepped s) :=
  ⟨by decide +kernel, rfl, rfl, step_stepped (by decide +kernel)⟩

theorem test_witness_ResetRestoresTheBlock :
    { txS3 with phase := .wait, timer := .running, inbox := [.reset] }.inbox = .reset :: [] := by decide +kernel

theorem test_witness_AcceptanceSamplesTheConfiguration :
    (withEvent (.accept { opc := 0x20#8 })).phase = .idle ∧
      (withEvent (.accept { opc := 0x20#8 })).inbox = .accept { opc := 0x20#8 } :: [] := by decide +kernel

theorem test_witness_PhaseMovesAlongTheEdges :
    phaseEdge State.reset = .next State.reset ∧ phaseEdge accepted = .next (raise .addrZero accepted) :=
  ⟨rfl, rfl⟩

theorem test_witness_PhasesComposeToTheOperation :
    decode (.host { opc := 0x15#8, a16 := 0x0116#16, v32 := 2000#32 }) = .ok (.writeRegister 0x0116#16 2000#32) := by
  decide +kernel

theorem test_witness_DecodeEncodeAgree :
    (Instr.writeRegisters 0xFFFF#16 0xFFFF#16 []).wf = true ∧
      (Instr.wireWriteMultiple 0x01#8 0x0116#16 [2000#32, 0x12345678#32] 0x4420#16).wf = true := by decide +kernel

theorem test_witness_FrameHasOneReading :
    decodeFrame v36 = .ok (.wireWriteMultiple 0x01#8 0x0116#16 [2000#32, 0x12345678#32] 0x4420#16) := by
  decide +kernel

theorem test_witness_UnreadFieldsAreIgnored :
    SameRead { opc := 0x34#8, a16 := 2#16, v32 := 0x00000001#32, data := [0xFF#8, 0xFF#8] }
      { opc := 0x34#8, a16 := 2#16, v32 := 0xFFFFFFFF#32, vals := [7#32], data := [0xFF#8, 0xFF#8] } where
  opc := rfl
  a16 := fun _ => rfl
  v32 := by decide +kernel
  low := by decide +kernel
  bit := by decide +kernel
  vals := by decide +kernel
  data := fun _ => rfl

theorem test_witness_BuiltFramesHaveTheirFormats :
    (1 ≤ (1#16 : Half).toNat ∧ (1#16 : Half).toNat ≤ 63 ∧ [5#32].length = (1#16 : Half).toNat) ∧
      (1 ≤ (63#16 : Half).toNat ∧ (63#16 : Half).toNat ≤ 63 ∧
        (List.replicate 63 5#32).length = (63#16 : Half).toNat) := by decide +kernel

theorem test_witness_CsrReadReturnsTheRegister :
    (0x0008#16 : Half).toNat ≤ 8 ∧ 8 < (0x0009#16 : Half).toNat ∧
      (Inv accepted ∧ accepted.valid = false ∧ 4 ≤ (0x0004#16 : Half).toNat ∧ (0x0007#16 : Half).toNat ≤ 7) :=
  ⟨by decide, by decide, accepted_inv, rfl, by decide, by decide⟩

theorem test_witness_CsrWriteStoresTheDefinedFields :
    2 ≤ (0x0002#16 : Half).toNat ∧ 2 ≤ (0xFFFF#16 : Half).toNat := by decide

theorem test_witness_OnlyCsrWriteConfigures :
    (∀ idx v, Instr.getStatus ≠ .csrWrite idx v) ∧ exec .getStatus State.reset = .next (after .getStatus State.reset) :=
  ⟨fun _ _ h => (nomatch h), exec_after (by decide +kernel)⟩

theorem test_witness_OpenBindsTheTransport :
    (ready []).link = .opened ∧
      ((cfg 0#8 .closed true false [.done true]).link = .closed ∧
        feedOk (cfg 0#8 .closed true false [.done true]).feed = true) ∧
      (cfg 0#8 .closed true false [.done false]).link = .closed ∧
        feedOk (cfg 0#8 .closed true false [.done false]).feed = false := by decide +kernel

theorem test_witness_CloseUnbindsTheTransport : (ready []).link = .opened ∧ State.reset.link = .closed := by
  decide +kernel

theorem test_witness_FlushNeedsAnOpenLink : (ready []).link = .opened ∧ State.reset.link = .closed := by
  decide +kernel

theorem test_witness_OnlyOpenAndCloseChangeTheLink :
    (∀ port baud, Instr.flushPort ≠ .openPort port baud) ∧ Instr.flushPort ≠ .closePort ∧
      exec .flushPort (ready []) = .next (after .flushPort (ready [])) :=
  ⟨fun _ _ h => (nomatch h), by decide, exec_after (by decide +kernel)⟩

theorem test_witness_FrameChecksComeFirstAndInOrder :
    frameIssuing (.setMode 4#32) = true ∧ State.reset.addr = 0#8 ∧
      ((cfg 1#8 .closed true false []).addr ≠ 0#8 ∧ (cfg 1#8 .closed true false []).link = .closed) ∧
      (ready []).addr ≠ 0#8 ∧ (ready []).link = .opened ∧ ∀ cmd f, ¬ Issues (.setMode 4#32) cmd f :=
  ⟨by decide +kernel, by decide +kernel, by decide +kernel, by decide +kernel, by decide +kernel,
    fun _ _ h => by cases h; contradiction⟩

theorem test_witness_FrameChecksComeFirstAndInOrder_switch :
    frameIssuing (.setLoadSwitch 2#32) = true ∧ ∀ cmd f, ¬ Issues (.setLoadSwitch 2#32) cmd f :=
  ⟨by decide +kernel, fun _ _ h => by cases h; contradiction⟩

theorem test_witness_FrameChecksComeFirstAndInOrder_count :
    frameIssuing (.writeRegisters 0x0116#16 64#16 (List.replicate 64 0#32)) = true ∧
      (∀ cmd f, ¬ Issues (.writeRegisters 0x0116#16 64#16 (List.replicate 64 0#32)) cmd f) ∧
      ∀ cmd f, ¬ Issues (.writeRegisters 0x0116#16 0#16 []) cmd f :=
  ⟨by decide +kernel, fun _ _ h => by cases h; contradiction, fun _ _ h => by cases h; contradiction⟩

theorem test_witness_RefusedWriteAborts :
    Issues (.setLoadSwitch 1#32) .writeSingle (fun a sw => writeSingleFrame a 0x010E#16 1#32 sw) ∧
      Admits (ready [.done false]) ∧ feedOk (ready [.done false]).feed = false :=
  ⟨.setLoadSwitch _ (by decide), ready_admits _, by decide +kernel⟩

theorem test_witness_FailedReadAborts (why : ReadFail) :
    Issues .getMode .readRegisters readStatusFrame ∧ Admits (ready [.done true, .read (.fail why)]) ∧
      feedOk (ready [.done true, .read (.fail why)]).feed = true ∧
      feedRead (respLen .readRegisters) (afterOk (ready [.done true, .read (.fail why)]).feed) = .fail why :=
  ⟨.getMode, ready_admits _, rfl, rfl⟩

theorem test_witness_StrictMismatchAborts :
    Issues .getStatus .readRegisters readStatusFrame ∧ Admits (ready (exchange v9)) ∧
      feedOk (ready (exchange v9)).feed = true ∧
      feedRead (respLen .readRegisters) (afterOk (ready (exchange v9)).feed) = .ok v9 ∧
      crcMatches v9 (respLen .readRegisters) (ready (exchange v9)).crcSwap = false ∧
      (ready (exchange v9)).strict = true :=
  ⟨.getStatus, ready_admits _, by decide +kernel, by decide +kernel, by decide +kernel, by decide +kernel⟩

theorem test_witness_WriteOperationsComplete :
    Issues (.setMode 3#32) .writeSingle (fun a sw => writeSingleFrame a 0x0110#16 3#32 sw) ∧
      WireCmd.writeSingle ≠ .readRegisters ∧ Admits (ready (exchange ackS9)) ∧
      feedOk (ready (exchange ackS9)).feed = true ∧
      feedRead (respLen .writeSingle) (afterOk (ready (exchange ackS9)).feed) = .ok ackS9 ∧
      (crcMatches ackS9 (respLen .writeSingle) (ready (exchange ackS9)).crcSwap = true ∨
        (ready (exchange ackS9)).strict = false) ∧
      ackMalformed (ready (exchange ackS9)).params .writeSingle (ready (exchange ackS9)).addr ackS9 = false :=
  ⟨.setMode _ (by decide), by decide, ready_admits _, by decide +kernel, by decide +kernel, by decide +kernel,
    by decide +kernel⟩

theorem test_witness_WriteOperationsComplete_multiple :
    Issues (.writeRegisters 0x0116#16 63#16 (List.replicate 63 0#32)) .writeMultiple
        (fun a sw => writeMultipleFrame a 0x0116#16 63#16 (List.replicate 63 0#32) sw) ∧
      WireCmd.writeMultiple ≠ .readRegisters ∧ Admits (ready (exchange ackS16)) ∧
      feedOk (ready (exchange ackS16)).feed = true ∧
      feedRead (respLen .writeMultiple) (afterOk (ready (exchange ackS16)).feed) = .ok ackS16 ∧
      (crcMatches ackS16 (respLen .writeMultiple) (ready (exchange ackS16)).crcSwap = true ∨
        (ready (exchange ackS16)).strict = false) ∧
      ackMalformed (ready (exchange ackS16)).params .writeMultiple (ready (exchange ackS16)).addr ackS16 = false :=
  ⟨.writeRegisters _ _ _ (by decide) (by decide) (by decide), by decide, ready_admits _, by decide +kernel,
    by decide +kernel, by decide +kernel, by decide +kernel⟩

theorem test_witness_WriteOperationsComplete_lenient :
    Issues (.setCurrent 2000#32) .writeSingle (fun a sw => writeSingleFrame a 0x0116#16 2000#32 sw) ∧
      Admits (lenient (exchange ackE11)) ∧ feedOk (lenient (exchange ackE11)).feed = true ∧
      feedRead (respLen .writeSingle) (afterOk (lenient (exchange ackE11)).feed) = .ok ackE11 ∧
      crcMatches ackE11 (respLen .writeSingle) (lenient (exchange ackE11)).crcSwap = false ∧
      (lenient (exchange ackE11)).strict = false ∧
      ackMalformed (lenient (exchange ackE11)).params .writeSingle (lenient (exchange ackE11)).addr ackE11 = false :=
  ⟨.setCurrent _, lenient_admits _, by decide +kernel, by decide +kernel, by decide +kernel, by decide +kernel,
    by decide +kernel⟩

theorem test_witness_MalformedAckAborts (r : Bytes) (h : r = ackS9 ∨ r = ackE11) :
    Issues (.setPower 1234#32) .writeSingle (fun a sw => writeSingleFrame a 0x011E#16 1234#32 sw) ∧
      WireCmd.writeSingle ≠ .readRegisters ∧ Admits (picky (exchange r)) ∧
      feedOk (picky (exchange r)).feed = true ∧
      feedRead (respLen .writeSingle) (afterOk (picky (exchange r)).feed) = .ok r ∧
      (crcMatches r (respLen .writeSingle) (picky (exchange r)).crcSwap = true ∨
        (picky (exchange r)).strict = false) ∧
      ackMalformed (picky (exchange r)).params .writeSingle (picky (exchange r)).addr r = true := by
  refine ⟨.setPower _, by decide, picky_admits _, ?_⟩
  rcases h with rfl | rfl <;> decide +kernel

theorem test_witness_StatusOperationsComplete :
    Issues .getSwitch .readRegisters readStatusFrame ∧ Returns .getSwitch (fun d => d.switch.setWidth 32) ∧
      Admits (ready (exchange v40)) ∧ feedOk (ready (exchange v40)).feed = true ∧
      feedRead 23 (afterOk (ready (exchange v40)).feed) = .ok v40 ∧
      (crcMatches v40 23 (ready (exchange v40)).crcSwap = true ∨ (ready (exchange v40)).strict = false) :=
  ⟨.getSwitch, .getSwitch, ready_admits _, by decide +kernel, by decide +kernel, by decide +kernel⟩

theorem test_witness_StatusOperationsComplete_lenient :
    Issues .getVoltage .readRegisters readStatusFrame ∧ Returns .getVoltage (fun d => d.voltage.setWidth 32) ∧
      Admits (lenient (exchange v9)) ∧ feedOk (lenient (exchange v9)).feed = true ∧
      feedRead 23 (afterOk (lenient (exchange v9)).feed) = .ok v9 ∧
      crcMatches v9 23 (lenient (exchange v9)).crcSwap = false ∧ (lenient (exchange v9)).strict = false :=
  ⟨.getVoltage, .getVoltage, lenient_admits _, by decide +kernel, by decide +kernel, by decide +kernel,
    by decide +kernel⟩

theorem test_witness_SetOperationsAreWriteRegister : (3#32 : Word).toNat ≤ 3 ∧ (1#32 : Word).toNat ≤ 1 := by decide

theorem test_witness_FrameEventsComeInOrder :
    frameIssuing .getStatus = true ∧
      exec .getStatus (ready (exchange v40)) = .next (after .getStatus (ready (exchange v40))) :=
  ⟨by decide +kernel, exec_after (by decide +kernel)⟩

theorem test_witness_OnlyStatusReadsWriteDeviceState :
    readsStatus (.setLoadSwitch 1#32) = false ∧ (∀ a c, Instr.setLoadSwitch 1#32 ≠ .wireReadStatus a c) ∧
      exec (.setLoadSwitch 1#32) (ready (exchange ackS9)) =
        .next (after (.setLoadSwitch 1#32) (ready (exchange ackS9))) :=
  ⟨by decide +kernel, fun _ _ h => (nomatch h), exec_after (by decide +kernel)⟩

/-- Both ends of the length guard of CRC_COMPUTE (V18, V18a). -/
theorem test_witness_CrcComputeReturnsTheCrc :
    ((List.replicate 261 0#8 : Bytes).length ≤ 261 ∧
        (261#16 : Half).toNat ≤ (List.replicate 261 0#8 : Bytes).length) ∧
      ¬ ((List.replicate 262 0#8 : Bytes).length ≤ 261 ∧
        (1#16 : Half).toNat ≤ (List.replicate 262 0#8 : Bytes).length) ∧
      ¬ ([0x01#8].length ≤ 261 ∧ (2#16 : Half).toNat ≤ [0x01#8].length) ∧
      v1.take 9 = (v1 ++ [0x00#8]).take 9 := by decide +kernel

theorem test_witness_CrcInsertStoresTheCrc :
    (v40.length ≤ 261 ∧ 2 ≤ (2#16 : Half).toNat ∧ (2#16 : Half).toNat ≤ v40.length) ∧
      ¬ (v40.length ≤ 261 ∧ 2 ≤ (1#16 : Half).toNat ∧ (1#16 : Half).toNat ≤ v40.length) ∧
      ¬ (v40.length ≤ 261 ∧ 2 ≤ (24#16 : Half).toNat ∧ (24#16 : Half).toNat ≤ v40.length) := by decide +kernel

theorem test_witness_CrcExtractReadsTheTrailer :
    (v40.length ≤ 261 ∧ 2 ≤ (23#16 : Half).toNat ∧ (23#16 : Half).toNat ≤ v40.length ∧
        v40[(23#16 : Half).toNat - 2]? = some 0x65#8 ∧ v40[(23#16 : Half).toNat - 1]? = some 0xD6#8) ∧
      ¬ ([0xAB#8].length ≤ 261 ∧ 2 ≤ (1#16 : Half).toNat ∧ (1#16 : Half).toNat ≤ [0xAB#8].length) := by
  decide +kernel

theorem test_witness_CrcSetSealsTheMessage :
    (v27.length ≤ 261 ∧ 2 ≤ (8#16 : Half).toNat ∧ (8#16 : Half).toNat ≤ v27.length) ∧
      ¬ (v27.length ≤ 261 ∧ 2 ≤ (9#16 : Half).toNat ∧ (9#16 : Half).toNat ≤ v27.length) := by decide +kernel

theorem test_witness_CrcVerifyReportsTheMatch :
    (v24.length ≤ 261 ∧ 2 ≤ (8#16 : Half).toNat ∧ (8#16 : Half).toNat ≤ v24.length ∧
        crcOf v24 ((8#16 : Half).toNat - 2) State.reset.crcSwap = extractCrc v24 (8#16 : Half).toNat) ∧
      ((v24.set 0 0x02#8).length ≤ 261 ∧ (8#16 : Half).toNat ≤ (v24.set 0 0x02#8).length ∧
        crcOf (v24.set 0 0x02#8) ((8#16 : Half).toNat - 2) State.reset.crcSwap ≠
          extractCrc (v24.set 0 0x02#8) (8#16 : Half).toNat) ∧
      ¬ (v24.length ≤ 261 ∧ 2 ≤ (0#16 : Half).toNat ∧ (0#16 : Half).toNat ≤ v24.length) := by decide +kernel

theorem test_witness_SealedMessageVerifies : 2 ≤ 8 ∧ 8 ≤ v27.length := by decide +kernel

theorem test_witness_OneChangedByteIsDetected :
    2 ≤ 8 ∧ 8 ≤ v27.length ∧ (0 < 8 ∧ v27[0]? ≠ some 0x02#8) ∧ (7 < 8 ∧ v27[7]? ≠ some 0x44#8) ∧
      crcMatches v27 8 false = true := by decide +kernel

theorem test_witness_BuildWriteMultipleChecksTheCount :
    (1 ≤ (63#16 : Half).toNat ∧ (63#16 : Half).toNat ≤ 63 ∧
        (List.replicate 63 0#32 : List Word).length = (63#16 : Half).toNat) ∧
      ¬ (1 ≤ (0#16 : Half).toNat ∧ (0#16 : Half).toNat ≤ 63 ∧ ([] : List Word).length = (0#16 : Half).toNat) ∧
      ¬ (1 ≤ (64#16 : Half).toNat ∧ (64#16 : Half).toNat ≤ 63 ∧
        (List.replicate 64 0#32 : List Word).length = (64#16 : Half).toNat) := by decide +kernel

theorem test_witness_DecodeServiceReturnsTheFields : v40.length = 23 ∧ (v40.take 22).length ≠ 23 := by decide +kernel

/-- Both ends of the offsets' range, and both masks (R9, R10). -/
theorem test_witness_StatusFieldsAreTheirBytes :
    { Params.canonical with offV := 4#5, offI := 18#5 }.wf = true ∧ v41.length = 23 ∧
      { Params.canonical with offV := 18#5, offI := 4#5, modeMask := 7#3 }.wf = true ∧
      Params.canonical.modeMask = 3#3 := by decide +kernel

theorem test_witness_SwitchBitFlipsOnlyTheSwitch : Params.canonical.wf = true ∧ v42.length = 23 := by decide +kernel

theorem test_witness_WireReadCompletes :
    txS3.txbuf.wf maxFrame = true ∧ txS3.rxbuf.wf statusLen = true ∧ isCsrRead txS3 = false ∧
      feedOk txS3.feed = true ∧ feedRead 23 (afterOk txS3.feed) = .ok v42 ∧
      (crcMatches v42 23 (reqSwap txS3) = true ∨ reqStrict txS3 = false) := by decide +kernel

theorem test_witness_WireWriteCompletes :
    let s := ready (exchange ackS9)
    Carries (.wireWriteSingle 0x01#8 0x0116#16 2000#32 0x0C9D#16) .writeSingle ∧
      WireCmd.writeSingle ≠ .readRegisters ∧ s.txbuf.wf maxFrame = true ∧ s.rxbuf.wf statusLen = true ∧
      isCsrRead s = false ∧ feedOk s.feed = true ∧ feedRead (respLen .writeSingle) (afterOk s.feed) = .ok ackS9 ∧
      (crcMatches ackS9 (respLen .writeSingle) (reqSwap s) = true ∨ reqStrict s = false) ∧
      ackMalformed s.params .writeSingle (reqAddr s) ackS9 = false :=
  ⟨.writeSingle _ _ _ _, by decide +kernel⟩

theorem test_witness_WireWriteCompletes_multiple :
    let s := ready (exchange ackS16)
    Carries (.wireWriteMultiple 0x01#8 0x0116#16 [2000#32, 0x12345678#32] 0x4420#16) .writeMultiple ∧
      WireCmd.writeMultiple ≠ .readRegisters ∧ s.txbuf.wf maxFrame = true ∧ s.rxbuf.wf statusLen = true ∧
      isCsrRead s = false ∧ feedOk s.feed = true ∧
      feedRead (respLen .writeMultiple) (afterOk s.feed) = .ok ackS16 ∧
      (crcMatches ackS16 (respLen .writeMultiple) (reqSwap s) = true ∨ reqStrict s = false) ∧
      ackMalformed s.params .writeMultiple (reqAddr s) ackS16 = false :=
  ⟨.writeMultiple _ _ _ _ (by decide) (by decide), by decide +kernel⟩

theorem test_witness_WireCountOutOfRangeFaults :
    ¬ (1 ≤ ([] : List Word).length ∧ ([] : List Word).length ≤ 63) ∧
      ¬ (1 ≤ (List.replicate 64 0#32 : List Word).length ∧ (List.replicate 64 0#32 : List Word).length ≤ 63) := by
  decide +kernel

theorem test_witness_OkReadHasTheLengthAsked :
    feedRead 8 { answers := [.read (.ok ackS16)], draws := 0 } = .ok ackS16 := by decide +kernel

theorem test_witness_AnswersAreTakenInOrder :
    { answers := exchange v40, draws := 0 : Feed }.answers = .done true :: [.read (.ok v40)] ∧
      (({ answers := [.read (.ok v40)], draws := 0 } : Feed).answers = .read (.ok v40) :: [] ∧ v40.length = 23) ∧
      ({ answers := [.read (.fail .io)], draws := 0 } : Feed).answers = .read (.fail .io) :: [] := by decide +kernel

theorem test_witness_EveryCompletionReturnsItsResult :
    (∃ r, encode .getStatus = .host r) ∧ exec .getStatus State.reset = .next (after .getStatus State.reset) ∧
      (∀ idx, Instr.getStatus ≠ .csrRead idx) ∧
      (∃ r, encode (.csrRead 9#16) = .host r) ∧
      exec (.csrRead 9#16) State.reset = .next (after (.csrRead 9#16) State.reset) ∧
      ∃ idx, Instr.csrRead 9#16 = .csrRead idx :=
  ⟨⟨_, rfl⟩, exec_after (by decide +kernel), fun _ h => (nomatch h), ⟨_, rfl⟩, exec_after (by decide +kernel), _, rfl⟩

theorem test_witness_ValidationComesBeforeAnyIo :
    exec .getStatus State.reset = .next (after .getStatus State.reset) ∧
      (after .getStatus State.reset).res.err = 1#3 :=
  ⟨exec_after (by decide +kernel), by decide +kernel⟩

theorem test_witness_RaisedErrorDiscardsData :
    exec .getStatus (ready (exchange v9)) = .next (after .getStatus (ready (exchange v9))) ∧
      (after .getStatus (ready (exchange v9))).res.err ≠ 0#3 :=
  ⟨exec_after (by decide +kernel), by decide +kernel⟩

theorem test_witness_HistoryOnlyGrows : step txS3 = .next (stepped txS3) := step_stepped (by decide +kernel)

theorem test_witness_WellFormedOperationsComplete : (Instr.openPort [] 0#32).wf = true := by decide +kernel

theorem test_witness_ResetSatisfiesTheInvariant :
    { Params.canonical with modeMask := 7#3, offV := 4#5, offI := 18#5, strictReset := false, crcSwapReset := true }.wf =
      true := by decide +kernel

theorem test_witness_StepKeepsTheInvariant : Inv accepted ∧ step accepted = .next (stepped accepted) :=
  ⟨accepted_inv, step_stepped (by decide +kernel)⟩

theorem test_witness_InvariantStatesNeverStop : Inv accepted := accepted_inv

/-- The ends of the reserved ranges (R85). -/
theorem test_witness_ReservedOpcodeFailsEdgeByEdge :
    reservedOpcode 0x00#8 = true ∧ reservedOpcode 0x06#8 = true ∧ reservedOpcode 0x37#8 = true ∧
      reservedOpcode 0xFF#8 = true := by decide +kernel

theorem test_witness_CfgIdIsConstant :
    State.reset.params = Params.canonical ∧ step accepted = .next (stepped accepted) :=
  ⟨rfl, step_stepped (by decide +kernel)⟩

end Sys2Proof.Tests
end

section
/-! PROOF of O57 (R37): CFG_ID is a view of the build parameters, and the build parameters are the one field that no
operation, no phase edge and no reset writes. The lemmas follow the model from its shared operations up to `step`. -/

namespace Sys2Proof.Machine

/-! ### The register's word -/

@[simp] theorem csrValue_cfgId (s : State) : csrValue s 0x0008#16 = some (cfgWord s.params) := rfl

theorem cfgWord_modeMask (p : Params) : (cfgWord p).extractLsb' 0 3 = p.modeMask :=
  BitVec.extractLsb'_append_eq_right

theorem cfgWord_offV (p : Params) : (cfgWord p).extractLsb' 8 5 = p.offV := by
  unfold cfgWord
  rw [BitVec.extractLsb'_append_eq_of_le (by decide), BitVec.extractLsb'_append_eq_of_le (by decide)]
  exact BitVec.extractLsb'_append_eq_right

theorem cfgWord_offI (p : Params) : (cfgWord p).extractLsb' 16 5 = p.offI := by
  unfold cfgWord
  rw [BitVec.extractLsb'_append_eq_of_le (by decide), BitVec.extractLsb'_append_eq_of_le (by decide),
    BitVec.extractLsb'_append_eq_of_le (by decide), BitVec.extractLsb'_append_eq_of_le (by decide)]
  exact BitVec.extractLsb'_append_eq_right

theorem cfgWord_canonical : cfgWord Params.canonical = 0x00080503#32 := rfl

/-! ### The effects done in CHECK keep the parameters -/

@[simp] theorem openPortOp_params (port : Bytes) (baud : Word) (s : State) :
    (openPortOp port baud s).params = s.params := by
  unfold openPortOp; split
  · rfl
  · dsimp only; split <;> rfl

@[simp] theorem closePortOp_params (s : State) : (closePortOp s).params = s.params := by
  unfold closePortOp; split <;> rfl

@[simp] theorem flushPortOp_params (s : State) : (flushPortOp s).params = s.params := by
  unfold flushPortOp; split <;> rfl

@[simp] theorem csrReadOp_params (idx : Half) (s : State) : (csrReadOp idx s).params = s.params := by
  unfold csrReadOp; split <;> rfl

@[simp] theorem csrWriteOp_params (idx : Half) (v : Word) (s : State) : (csrWriteOp idx v s).params = s.params := by
  unfold csrWriteOp; split
  · rfl
  · split <;> rfl

@[simp] theorem crcComputeOp_params (d : Bytes) (n : Half) (s : State) : (crcComputeOp d n s).params = s.params := by
  unfold crcComputeOp; split <;> rfl

@[simp] theorem crcInsertOp_params (m : Bytes) (n c : Half) (s : State) : (crcInsertOp m n c s).params = s.params := by
  unfold crcInsertOp; split <;> rfl

@[simp] theorem crcExtractOp_params (m : Bytes) (n : Half) (s : State) : (crcExtractOp m n s).params = s.params := by
  unfold crcExtractOp; split <;> rfl

@[simp] theorem crcSetOp_params (m : Bytes) (n : Half) (s : State) : (crcSetOp m n s).params = s.params := by
  unfold crcSetOp; split <;> rfl

@[simp] theorem crcVerifyOp_params (m : Bytes) (n : Half) (strict : Bool) (s : State) :
    (crcVerifyOp m n strict s).params = s.params := by
  unfold crcVerifyOp; split
  · split
    · rfl
    · split <;> rfl
  · rfl

@[simp] theorem buildReadStatusOp_params (s : State) : (buildReadStatusOp s).params = s.params := rfl

@[simp] theorem buildWriteSingleOp_params (reg : Half) (v : Word) (s : State) :
    (buildWriteSingleOp reg v s).params = s.params := rfl

@[simp] theorem buildWriteMultipleOp_params (start count : Half) (vals : List Word) (s : State) :
    (buildWriteMultipleOp start count vals s).params = s.params := by
  unfold buildWriteMultipleOp; split <;> rfl

@[simp] theorem decodeStatusBankOp_params (r : Bytes) (s : State) : (decodeStatusBankOp r s).params = s.params := by
  unfold decodeStatusBankOp; split <;> rfl

/-- Every effect that the sequencer does in CHECK keeps the parameters. -/
theorem localEffect_params {i : Instr} {effect : State → State} (h : courseOf i = some (.localEffect effect))
    (s : State) : (effect s).params = s.params := by
  cases i <;> cases h <;> simp

/-! ### The phases of a frame keep the parameters -/

@[simp] theorem checkFrameOp_params (p : Bool) (s : State) : (checkFrameOp p s).params = s.params := by
  rcases checkFrameOp_cases p s with ⟨-, h⟩ | ⟨-, -, h⟩ | ⟨-, -, -, h⟩ | ⟨-, -, -, h⟩ <;> simp [h]

@[simp] theorem transmit_params (n : Nat) (s : State) : (transmit n s).params = s.params := by
  cases h : feedOk s.feed
  · simp [transmit_false h]
  · simp [transmit_true h]

@[simp] theorem receive_params (cmd : WireCmd) (s : State) : (receive cmd s).params = s.params := by
  cases h : feedRead (respLen cmd) s.feed
  · simp [receive_ok h]
  · simp [receive_fail h]

@[simp] theorem verifyAck_params (cmd : WireCmd) (s : State) : (verifyAck cmd s).params = s.params := by
  rcases verifyAck_cases cmd s with ⟨-, h⟩ | ⟨-, -, h⟩ | ⟨-, -, h⟩ <;> simp [h]

@[simp] theorem verifyResponse_params (cmd : WireCmd) (s : State) : (verifyResponse cmd s).params = s.params := by
  rcases verifyResponse_cases cmd s with ⟨-, h⟩ | ⟨-, -, h⟩ | ⟨-, -, h⟩ <;> simp [h]

@[simp] theorem decodeUpdate_params (value : State → Word) (s : State) :
    (decodeUpdate value s).params = s.params := rfl

@[simp] theorem transact_params (cmd : WireCmd) (n : Nat) (value : State → Word) (s : State) :
    (transact cmd n value s).params = s.params := by
  rcases transact_cases cmd n value s with ⟨-, h⟩ | ⟨-, -, h⟩ | ⟨-, -, -, h⟩ | ⟨-, -, -, h⟩ <;> simp [h]

@[simp] theorem frameEdge_params (op : FrameOp) (s : State) : (frameEdge op s).params = s.params := by
  unfold frameEdge; split <;> simp

/-! ### Whole operations keep the parameters -/

@[simp] theorem runFrameOp_params (r : Request) (op : FrameOp) (s : State) :
    (runFrameOp r op s).params = s.params := by
  rcases runFrameOp_cases r op s with ⟨e, -, h⟩ | ⟨-, -, -, h⟩ <;> simp [h]

@[simp] theorem runWireOp_params (cmd : WireCmd) (f : Bytes) (s : State) :
    (runWireOp cmd f s).params = s.params := by
  simp [runWireOp]

/-- A whole local operation keeps the parameters when its effect does. -/
theorem runLocalOp_params {effect : State → State} (h : ∀ s, (effect s).params = s.params) (r : Request) (s : State) :
    (runLocalOp r effect s).params = s.params := by
  simp [runLocalOp, h]

@[simp] theorem rejectOpcode_params (r : Request) (s : State) : (rejectOpcode r s).params = s.params :=
  runLocalOp_params (raise_params _) r s

/-- The fused meaning of an operation is the one its course gives: a local operation, a frame operation, or for a
wire command, which has no course, the run of its frame (R83, R111). -/
theorem exec_cases {i : Instr} {s t : State} (h : exec i s = .next t) :
    (∃ effect, courseOf i = some (.localEffect effect) ∧ t = runLocalOp (requestOf i) effect s) ∨
    (∃ op, courseOf i = some (.frame op) ∧ t = runFrameOp (requestOf i) op s) ∨
    (courseOf i = none ∧ ∃ cmd, t = runWireOp cmd (frameOf i) s) := by
  cases i
  case wireWriteMultiple addr start vals crc =>
    simp only [exec, execWireWriteMultiple] at h
    split at h
    · cases h; exact .inr (.inr ⟨rfl, _, rfl⟩)
    · cases h
  case wireReadStatus | wireWriteSingle => cases h; exact .inr (.inr ⟨rfl, _, rfl⟩)
  case getStatus | getCurrent | getVoltage | getMode | getSwitch | setCurrent | setPower | setResistance | setMode |
      setLoadSwitch | writeRegister | writeRegisters => cases h; exact .inr (.inl ⟨_, rfl, rfl⟩)
  all_goals cases h; exact .inl ⟨_, rfl, rfl⟩

theorem exec_params {i : Instr} {s t : State} (h : exec i s = .next t) : t.params = s.params := by
  rcases exec_cases h with ⟨effect, hc, rfl⟩ | ⟨op, -, rfl⟩ | ⟨-, cmd, rfl⟩
  · exact runLocalOp_params (localEffect_params hc) _ s
  · exact runFrameOp_params _ op s
  · exact runWireOp_params cmd _ s

/-! ### Every step keeps the parameters -/

theorem runRequest_params {r : Request} {s t : State} (h : runRequest r s = .next t) : t.params = s.params := by
  unfold runRequest at h
  split at h
  · exact exec_params h
  · cases h; exact rejectOpcode_params r s

theorem runFrame_params {s t : State} (h : runFrame s = .next t) : t.params = s.params := by
  unfold runFrame at h
  split at h
  · cases h
  · split at h
    · exact exec_params h
    · cases h

/-- A latched request's course is the course of the operation that it decodes to. -/
theorem courseOfRequest_some {r : Request} {c : Course} (h : courseOfRequest r = some c) : ∃ i, courseOf i = some c := by
  unfold courseOfRequest at h
  split at h
  · exact ⟨_, h⟩
  · cases h

theorem checkEdge_params {s t : State} (h : checkEdge s = .next t) : t.params = s.params := by
  unfold checkEdge at h
  split at h
  · cases h
  · split at h <;> cases h
    · exact raise_params _ s
    · next hc =>
      obtain ⟨i, hi⟩ := courseOfRequest_some hc
      exact localEffect_params hi s
    · exact checkFrameOp_params _ s

theorem phaseEdge_params {s t : State} (h : phaseEdge s = .next t) : t.params = s.params := by
  cases hp : s.phase <;> simp only [phaseEdge, hp] at h
  case idle => cases h; rfl
  case check => exact checkEdge_params h
  case done => cases h; exact finish_params s
  -- the seven frame phases, BUILD to DECODE
  all_goals
    split at h <;> cases h
    exact frameEdge_params _ s

/-- What `proceed` does: the idle block runs a request, accepts one, or waits; in TX the frame is carried out; in any
other phase an edge is taken (R112, R115). -/
theorem proceed_cases {s t : State} (h : proceed s = .next t) :
    (s.phase = .idle ∧ ∃ r rest, s.inbox = .request r :: rest ∧ runRequest r { s with inbox := rest } = .next t) ∨
    (s.phase = .idle ∧ ∃ r rest, s.inbox = .accept r :: rest ∧ t = accept r { s with inbox := rest }) ∨
    (s.phase = .idle ∧ t = s) ∨
    (s.phase = .tx ∧ runFrame s = .next t) ∨
    (s.phase ≠ .idle ∧ s.phase ≠ .tx ∧ phaseEdge s = .next t) := by
  unfold proceed at h
  split at h
  · next hp =>
    split at h
    · next hi => exact .inl ⟨hp, _, _, hi, h⟩
    · next hi => cases h; exact .inr (.inl ⟨hp, _, _, hi, rfl⟩)
    · cases h; exact .inr (.inr (.inl ⟨hp, rfl⟩))
  · next hp => exact .inr (.inr (.inr (.inl ⟨hp, h⟩)))
  all_goals next hp => exact .inr (.inr (.inr (.inr ⟨by simp [hp], by simp [hp], h⟩)))

/-- What a step does: the block is reset, an elapsed edge is taken, or the block proceeds (R111, R150). -/
theorem step_cases {s t : State} (h : step s = .next t) :
    (∃ rest, s.inbox = .reset :: rest ∧ t = blockReset { s with inbox := rest }) ∨
    (∃ rest, s.inbox = .elapse :: rest ∧ phaseEdge { s with inbox := rest } = .next t) ∨
    ((∀ e rest, s.inbox = e :: rest → isPresented e = true) ∧ proceed s = .next t) := by
  unfold step at h
  split at h
  · next hi => cases h; exact .inl ⟨_, hi, rfl⟩
  · next hi => exact .inr (.inl ⟨_, hi, h⟩)
  · next hr he =>
    refine .inr (.inr ⟨fun e rest hi => ?_, h⟩)
    cases e with
    | request | accept => rfl
    | elapse => exact (he rest hi).elim
    | reset => exact (hr rest hi).elim

theorem proceed_params {s t : State} (h : proceed s = .next t) : t.params = s.params := by
  rcases proceed_cases h with ⟨-, r, rest, -, h⟩ | ⟨-, r, rest, -, rfl⟩ | ⟨-, rfl⟩ | ⟨-, h⟩ | ⟨-, -, h⟩
  · exact (runRequest_params h :)
  · rfl
  · rfl
  · exact runFrame_params h
  · exact phaseEdge_params h

/-- The build parameters are constant: no step writes them (R37). -/
theorem step_params {s t : State} (h : step s = .next t) : t.params = s.params := by
  rcases step_cases h with ⟨rest, -, rfl⟩ | ⟨rest, -, h⟩ | ⟨-, h⟩
  · exact blockReset_params { s with inbox := rest }
  · exact (phaseEdge_params h :)
  · exact proceed_params h

/-- Settles O57: CFG_ID is the word of the build parameters, whose fields stand at their places, and every step keeps
the parameters. -/
theorem cfgIdIsConstant : Obligations.CfgIdIsConstant := by
  refine ⟨fun s => ?_, fun s hs => ?_, fun s t h => ?_⟩
  · exact ⟨cfgWord s.params, csrValue_cfgId s, cfgWord_modeMask _, cfgWord_offV _, cfgWord_offI _⟩
  · rw [csrValue_cfgId, hs, cfgWord_canonical]
  · have hp : t.params = s.params := step_params h
    exact ⟨by rw [csrValue_cfgId, csrValue_cfgId, hp], hp⟩

end Sys2Proof.Machine
end

section
/-! PROOF of O12 (R101 to R104): a built frame is its body, byte by byte, and the big-endian CRC of that body. -/

namespace Sys2Proof.Machine

/-! ### Sealing a body -/

/-- The CRC of a body is that of the body within a longer frame (R96). -/
theorem crcOf_append (b t : Bytes) (sw : Bool) : crcOf (b ++ t) b.length sw = crcOf b b.length sw :=
  crcOf_take (by simp)

/-- A sealed layout is its body and the CRC of that body, the placeholder bytes not read (R96, R99, R104). -/
theorem sealFrame_body (b : Bytes) (sw : Bool) :
    sealFrame (b ++ [0#8, 0#8]) sw = b ++ be16 (crcOf b b.length sw) := by
  rw [sealFrame_append, crcOf_append]

/-! ### The frame of write_multiple -/

/-- The body of an F_WM frame: all its bytes but the checksum (R73, R103). -/
def bodyWriteMultiple (a : Byte) (start count : Half) (vals : List Word) : Bytes :=
  [a, 0x16#8] ++ be16 start ++ be16 count ++ [4#8 * loByte count] ++ be32s vals

theorem bodyWriteMultiple_length (a : Byte) (start count : Half) (vals : List Word) :
    (bodyWriteMultiple a start count vals).length = 7 + 4 * vals.length := by
  simp only [bodyWriteMultiple, be16, List.length_append, List.length_cons, List.length_nil, be32s_length]

theorem writeMultipleFrame_eq (a : Byte) (start count : Half) (vals : List Word) (sw : Bool) :
    writeMultipleFrame a start count vals sw =
      bodyWriteMultiple a start count vals ++
        be16 (crcOf (bodyWriteMultiple a start count vals) (7 + 4 * vals.length) sw) := by
  rw [← bodyWriteMultiple_length a start count vals]
  exact sealFrame_body (bodyWriteMultiple a start count vals) sw

theorem writeMultipleFrame_length (a : Byte) (start count : Half) (vals : List Word) (sw : Bool) :
    (writeMultipleFrame a start count vals sw).length = 9 + 4 * vals.length := by
  rw [writeMultipleFrame, sealFrame_length, layoutWriteMultiple_length]

/-- The checksum field of a built F_WM frame holds the CRC of the bytes of the frame before it (R103). -/
theorem crcOf_writeMultipleFrame (a : Byte) (start count : Half) (vals : List Word) (sw : Bool) :
    crcOf (writeMultipleFrame a start count vals sw) (7 + 4 * vals.length) sw =
      crcOf (bodyWriteMultiple a start count vals) (7 + 4 * vals.length) sw := by
  rw [writeMultipleFrame_eq, ← bodyWriteMultiple_length a start count vals, crcOf_append]

/-- The byte-count field of F_WM, from the count's low byte or from the count as a number (R73, R79). -/
theorem ofNat_four_mul_toNat (c : Half) : BitVec.ofNat 8 (4 * c.toNat) = 4#8 * loByte c := by
  apply BitVec.eq_of_toNat_eq
  simp [loByte, BitVec.toNat_mul]

theorem encode_wireWriteMultiple {count : Half} {vals : List Word} (h : vals.length = count.toNat) (a : Byte)
    (start c : Half) :
    encode (.wireWriteMultiple a start vals c) = .wire (bodyWriteMultiple a start count vals ++ be16 c) := by
  have hc : BitVec.ofNat 16 vals.length = count := by rw [h, BitVec.ofNat_toNat, BitVec.setWidth_eq]
  have hb : BitVec.ofNat 8 (4 * vals.length) = 4#8 * loByte count := by rw [h, ofNat_four_mul_toNat]
  simp only [encode, hc, hb, bodyWriteMultiple]

/-- Settles O12: each layout is a body and two placeholder bytes, which sealing replaces by the CRC of the body; the
body and CRC of write_multiple are what the F_WM encoding writes. -/
theorem builtFramesHaveTheirFormats : Obligations.BuiltFramesHaveTheirFormats := by
  refine ⟨fun a sw => ?_, fun a reg v sw => ⟨_, rfl, ?_⟩, fun a start count vals sw _ _ hlen => ?_⟩
  · exact sealFrame_body [a, 0x03#8, 0x03#8, 0x00#8, 0x00#8, 0x00#8] sw
  · exact sealFrame_body [a, 0x06#8, hiByte reg, loByte reg, 0x00#8, 0x01#8, 0x04#8, v.extractLsb' 24 8,
      v.extractLsb' 16 8, v.extractLsb' 8 8, v.extractLsb' 0 8] sw
  · rw [← hlen]
    refine ⟨writeMultipleFrame_length a start count vals sw, _, rfl, ?_⟩
    rw [crcOf_writeMultipleFrame, encode_wireWriteMultiple hlen, ← writeMultipleFrame_eq]

end Sys2Proof.Machine
end

section
/-! PROOF of O41 (R80, R105, R106): each field of the decoded status bank as a number of the bytes it stands in. -/

namespace Sys2Proof.Machine

theorem toNat_byte_append {w : Nat} (x : BitVec w) (b : Byte) : (x ++ b).toNat = 256 * x.toNat + b.toNat := by
  rw [BitVec.toNat_append, Nat.mul_comm, ← Nat.shiftLeft_add_eq_or_of_lt b.isLt, Nat.shiftLeft_eq]

/-- A 24-bit field is the big-endian number of its three bytes (R17, R80). -/
theorem unbe24_toNat (f : Bytes) (o : Nat) :
    (unbe24 f o).toNat =
      65536 * (byteAt f o).toNat + 256 * (byteAt f (o + 1)).toNat + (byteAt f (o + 2)).toNat := by
  simp only [unbe24, toNat_byte_append]
  omega

theorem decodeStatus_switch_toNat (p : Params) (r : Bytes) :
    (decodeStatus p r).switch.toNat = (byteAt r 3).toNat % 2 := by
  simp [decodeStatus]

/-- Bits that a mask of n bits does not reach may be dropped first. -/
theorem mod_two_pow_and_of_lt {x m n : Nat} (h : m < 2 ^ n) : x % 2 ^ n &&& m = x &&& m := by
  calc x % 2 ^ n &&& m = x % 2 ^ n &&& m % 2 ^ n := by rw [Nat.mod_eq_of_lt h]
    _ = (x &&& m) % 2 ^ n := Nat.and_mod_two_pow.symm
    _ = x &&& m := Nat.mod_eq_of_lt (Nat.and_lt_two_pow x h)

/-- The mode's three bits are bits 1 to 3 of byte 3; the mask reaches none above them (R105). -/
theorem decodeStatus_mode_toNat (p : Params) (r : Bytes) :
    (decodeStatus p r).mode.toNat = ((byteAt r 3).toNat / 2) &&& p.modeMask.toNat := by
  have h : (decodeStatus p r).mode.toNat = (byteAt r 3).toNat / 2 % 2 ^ 3 &&& p.modeMask.toNat := by
    simp [decodeStatus, Nat.shiftRight_eq_div_pow]
  rw [h, mod_two_pow_and_of_lt p.modeMask.isLt]

/-- A mode under the mask 3 is one of the four codes that name a load mode (R106). -/
theorem loadModeOf_and_three (m : BitVec 3) : ∃ l, loadModeOf (m &&& 3#3) = some l := by
  have named : ∀ m : BitVec 3, (loadModeOf (m &&& 3#3)).isSome = true := by decide
  exact Option.isSome_iff_exists.mp (named m)

/-- Settles O41, field by field. -/
theorem statusFieldsAreTheirBytes : Obligations.StatusFieldsAreTheirBytes := by
  intro p r _ _
  refine ⟨decodeStatus_switch_toNat p r, decodeStatus_mode_toNat p r, unbe24_toNat r _, unbe24_toNat r _, ?_⟩
  intro hmask
  simp only [decodeStatus, hmask]
  exact loadModeOf_and_three _

end Sys2Proof.Machine
end

section
/-! PROOF of O8 to O11 (R70 to R73, R77 to R82): the decoder and the encoder undo each other, and a request decodes by
the fields that its opcode reads. -/

namespace Sys2Proof

open Sys2Proof.Machine

/-! ### Decoding what was encoded -/

theorem decode_encode_wireReadStatus (a : Byte) (c : Half) :
    decode (encode (.wireReadStatus a c)) = .ok (.wireReadStatus a c) := by
  simp [decode, encode, decodeFrame, cmdByte, decodeReadStatus, statusBankAddr, be16, hiByte_append_loByte]

theorem decode_encode_wireWriteSingle (a : Byte) (reg : Half) (v : Word) (c : Half) :
    decode (encode (.wireWriteSingle a reg v c)) = .ok (.wireWriteSingle a reg v c) := by
  simp [decode, encode, decodeFrame, cmdByte, decodeWriteSingle, be16, be32, append_be32, hiByte_append_loByte]

/-- The counts that a write_multiple frame has, in numbers (R73, R89). -/
theorem valuesValid_iff {vals : List Word} : valuesValid vals = true ↔ 1 ≤ vals.length ∧ vals.length ≤ 63 := by
  simp only [valuesValid, Bool.and_eq_true, decide_eq_true_eq]
  exact Iff.rfl

/-- The guard of write_multiple keeps the count within its field and four times it within a byte (R73, R89). -/
theorem decode_encode_wireWriteMultiple (a : Byte) (start : Half) {vals : List Word} (c : Half)
    (h : valuesValid vals = true) :
    decode (encode (.wireWriteMultiple a start vals c)) = .ok (.wireWriteMultiple a start vals c) := by
  obtain ⟨hlo, hhi⟩ := valuesValid_iff.mp h
  have hmax : maxCount = 63 := rfl
  have hcount : (BitVec.ofNat 16 vals.length).toNat = vals.length := by simp; omega
  have hbytes : (BitVec.ofNat 8 (4 * vals.length)).toNat = 4 * vals.length := by simp; omega
  have hguard : ¬ (vals.length < 1 ∨ maxCount < vals.length) := by omega
  simp only [decode, encode, be16, List.cons_append, List.nil_append, decodeFrame, cmdByte, hiByte_append_loByte]
  rw [if_neg (by decide), if_neg (by decide), if_pos trivial]
  simp only [decodeWriteMultiple, hcount, hbytes, if_neg hguard, ne_eq, not_true_eq_false, if_false,
    takeWords_be32s, hiByte_append_loByte]

/-- Settles O9: a wire command by its frame format; a host operation by its row, where an operand narrower than its
field is read back off the low bits of v32. -/
theorem decodeEncodeAgree : Obligations.DecodeEncodeAgree := by
  intro i hi
  cases i
  case wireReadStatus a c => exact decode_encode_wireReadStatus a c
  case wireWriteSingle a reg v c => exact decode_encode_wireWriteSingle a reg v c
  case wireWriteMultiple a start vals c =>
    obtain ⟨⟨-, hvals⟩, -⟩ : (addrValid a = true ∧ valuesValid vals = true) ∧ _ := by
      simpa only [Instr.wf, Bool.and_eq_true] using hi
    exact decode_encode_wireWriteMultiple a start c hvals
  -- the 26 host operations, each by its row of the opcode table
  all_goals simp [decode, encode, decodeRequest, extractLsb_setWidth]

/-! ### Encoding what was decoded -/

theorem encode_of_decodeReadStatus {a : Byte} {reg n : Half} {rest : Bytes} {i : Instr}
    (h : decodeReadStatus a reg n rest = .ok i) :
    encode i = .wire ([a, 0x03#8] ++ be16 reg ++ be16 n ++ rest) := by
  unfold decodeReadStatus at h
  obtain ⟨-, h1⟩ | ⟨hreg, h1⟩ := ite_ok h
  · cases h1
  obtain ⟨-, h2⟩ | ⟨hn, h2⟩ := ite_ok h1
  · cases h2
  split at h2
  · cases h2
    rw [not_not.mp hreg, not_not.mp hn, encode, be16_append]
    rfl
  · cases h2

theorem encode_of_decodeWriteSingle {a : Byte} {reg n : Half} {rest : Bytes} {i : Instr}
    (h : decodeWriteSingle a reg n rest = .ok i) :
    encode i = .wire ([a, 0x06#8] ++ be16 reg ++ be16 n ++ rest) := by
  unfold decodeWriteSingle at h
  obtain ⟨-, h1⟩ | ⟨hn, h1⟩ := ite_ok h
  · cases h1
  split at h1
  · obtain ⟨-, h2⟩ | ⟨hbc, h2⟩ := ite_ok h1
    · cases h2
    cases h2
    rw [not_not.mp hn, not_not.mp hbc, encode, be16_append, be32_append]
    rfl
  · cases h1

theorem encode_of_decodeWriteMultiple {a : Byte} {start n : Half} {rest : Bytes} {i : Instr}
    (h : decodeWriteMultiple a start n rest = .ok i) :
    encode i = .wire ([a, 0x16#8] ++ be16 start ++ be16 n ++ rest) := by
  unfold decodeWriteMultiple at h
  obtain ⟨-, h1⟩ | ⟨-, h1⟩ := ite_ok h
  · cases h1
  split at h1
  · next bc payload =>
    obtain ⟨-, h2⟩ | ⟨hbc, h2⟩ := ite_ok h1
    · cases h2
    have hfield : BitVec.ofNat 8 (4 * n.toNat) = bc := by
      rw [← not_not.mp hbc, BitVec.ofNat_toNat, BitVec.setWidth_eq]
    split at h2
    · next vals hi lo htake =>
      obtain ⟨hlen, rfl⟩ := takeWords_some htake
      cases h2
      simp [encode, be16_append, hlen, hfield]
    · cases h2
  · cases h1

/-- Settles O10: the header tells the format, and each format's decoder read every byte of the frame. -/
theorem frameHasOneReading : Obligations.FrameHasOneReading := by
  intro f i h
  unfold decodeFrame at h
  split at h
  · next a c rh rl nh nl rest =>
    obtain ⟨hc, h1⟩ | ⟨-, h1⟩ := ite_ok h
    · simpa [be16_append, hc, cmdByte] using encode_of_decodeReadStatus h1
    obtain ⟨hc, h2⟩ | ⟨-, h2⟩ := ite_ok h1
    · simpa [be16_append, hc, cmdByte] using encode_of_decodeWriteSingle h2
    obtain ⟨hc, h3⟩ | ⟨-, h3⟩ := ite_ok h2
    · simpa [be16_append, hc, cmdByte] using encode_of_decodeWriteMultiple h3
    · cases h3
  · cases h

/-! ### The fields a request is read by -/

/-- Settles O11, row by row of the opcode table: the fields of the row are among those that agree. -/
theorem unreadFieldsAreIgnored : Obligations.UnreadFieldsAreIgnored := by
  rintro r q ⟨opc, a16, v32, low, bit, vals, data⟩
  unfold decodeRequest
  rw [opc]
  iterate 26
    refine ite_congr rfl (fun row => ?_) fun _ => ?_
    · simp only [row] at a16 v32 low bit vals data
      simp_all
  rfl

/-- Settles O8: each word computed through the decoder. -/
theorem tableWordsDecode : Obligations.TableWordsDecode :=
  ⟨rfl, rfl, rfl, rfl, rfl, rfl, rfl, rfl⟩

end Sys2Proof
end

section
/-! How an operation ends, said once for the proofs below: the state in which an effect of CHECK or the phases TX to
DECODE leave the block, before its result is returned (R111 to R118). -/

namespace Sys2Proof.Machine

/-! ### The meaning of an operation by its course -/

theorem exec_localEffect {i : Instr} {effect : State → State} (h : courseOf i = some (.localEffect effect))
    (s : State) : exec i s = .next (runLocalOp (requestOf i) effect s) := by
  cases i <;> cases h <;> rfl

theorem exec_frame {i : Instr} {op : FrameOp} (h : courseOf i = some (.frame op)) (s : State) :
    exec i s = .next (runFrameOp (requestOf i) op s) := by
  cases i <;> cases h <;> rfl

theorem exec_wire {i : Instr} {cmd : WireCmd} (h : Carries i cmd) (s : State) :
    exec i s = .next (runWireOp cmd (frameOf i) s) := by
  cases h with
  | readStatus | writeSingle => rfl
  | writeMultiple a start vals c h1 h2 => exact if_pos (valuesValid_iff.mpr ⟨h1, h2⟩)

/-- An operation without a course is a wire command, or a write_multiple frame that does not exist (R83, R89). -/
theorem carries_of_exec {i : Instr} {s t : State} (hc : courseOf i = none) (h : exec i s = .next t) :
    ∃ cmd, Carries i cmd := by
  cases i
  case wireReadStatus => exact ⟨_, .readStatus ..⟩
  case wireWriteSingle => exact ⟨_, .writeSingle ..⟩
  case wireWriteMultiple a start vals c =>
    by_cases hv : valuesValid vals = true
    · obtain ⟨h1, h2⟩ := valuesValid_iff.mp hv
      exact ⟨_, .writeMultiple a start vals c h1 h2⟩
    · simp [exec, execWireWriteMultiple, hv] at h
  all_goals cases hc

/-- A frame operation or a wire command under read_registers is one that reads the status bank (R58, R71). -/
theorem readsStatus_of_frame {i : Instr} {op : FrameOp} (h : courseOf i = some (.frame op))
    (hc : op.cmd = .readRegisters) : readsStatus i = true := by
  cases i <;> cases h
  case getStatus | getCurrent | getVoltage | getMode | getSwitch => rfl
  all_goals cases hc

theorem wireReadStatus_of_carries {i : Instr} (h : Carries i .readRegisters) : ∃ a c, i = .wireReadStatus a c := by
  cases h
  exact ⟨_, _, rfl⟩

/-! ### An effect done in CHECK -/

/-- What the effect of operation i leaves of s: an error, a result, a warning, or the one change of state that is
the operation's own. -/
inductive EffectEnds (s : State) : Instr → State → Prop where
  | raised (i : Instr) (e : OpError) : EffectEnds s i (raise e s)
  | succeeded (i : Instr) (v : Word) (d : Bytes) : EffectEnds s i (succeed v d s)
  | warned (i : Instr) : EffectEnds s i (succeed 0#32 [] (setWarn s))
  | ctrl (idx : Half) (v : Word) (strict swap : Bool) :
    EffectEnds s (.csrWrite idx v) (succeed 0#32 [] (setCtrl strict swap s))
  | address (idx : Half) (v : Word) (a : Byte) : EffectEnds s (.csrWrite idx v) (succeed 0#32 [] (setAddr a s))
  | opened (port : Bytes) (baud : Word) :
    EffectEnds s (.openPort port baud)
      (succeed 0#32 [] (setLink .opened
        (record (.openPort port baud format8N1 true) (setFeed (afterOk s.feed) s))))
  | openFailed (port : Bytes) (baud : Word) :
    EffectEnds s (.openPort port baud)
      (raise .openFail (record (.openPort port baud format8N1 false) (setFeed (afterOk s.feed) s)))
  | closed : EffectEnds s .closePort (succeed 0#32 [] (setLink .closed (record .close s)))
  | flushed : EffectEnds s .flushPort (succeed 0#32 [] (record .flush s))

theorem effectEnds_req {i : Instr} {s t : State} (h : EffectEnds s i t) : t.req = s.req := by
  cases h <;> rfl

theorem openPortOp_ends (port : Bytes) (baud : Word) (s : State) :
    EffectEnds s (.openPort port baud) (openPortOp port baud s) := by
  unfold openPortOp
  split
  · exact .raised _ _
  · cases feedOk s.feed
    · exact .openFailed port baud
    · exact .opened port baud

theorem closePortOp_ends (s : State) : EffectEnds s .closePort (closePortOp s) := by
  unfold closePortOp
  split
  · exact .closed
  · exact .succeeded _ _ _

theorem flushPortOp_ends (s : State) : EffectEnds s .flushPort (flushPortOp s) := by
  unfold flushPortOp
  split
  · exact .raised _ _
  · exact .flushed

theorem csrReadOp_ends (idx : Half) (s : State) : EffectEnds s (.csrRead idx) (csrReadOp idx s) := by
  unfold csrReadOp
  split
  · exact .succeeded _ _ _
  · exact .raised _ _

theorem csrWriteOp_ends (idx : Half) (v : Word) (s : State) :
    EffectEnds s (.csrWrite idx v) (csrWriteOp idx v s) := by
  unfold csrWriteOp
  split
  · exact .ctrl _ _ _ _
  · split
    · exact .address _ _ _
    · exact .raised _ _

theorem crcVerifyOp_ends (m : Bytes) (n : Half) (strict : Bool) (s : State) :
    EffectEnds s (.crcVerify m n strict) (crcVerifyOp m n strict s) := by
  unfold crcVerifyOp
  split
  · split
    · exact .succeeded _ _ _
    · split
      · exact .raised _ _
      · exact .warned _
  · exact .raised _ _

/-- A guarded service succeeds or raises, with no other effect (R95, D34). -/
theorem guarded_ends {c : Prop} [Decidable c] (i : Instr) (v : Word) (d : Bytes) (e : OpError) (s : State) :
    EffectEnds s i (if c then succeed v d s else raise e s) := by
  split
  · exact .succeeded _ _ _
  · exact .raised _ _

theorem localEffect_ends {i : Instr} {effect : State → State} (h : courseOf i = some (.localEffect effect))
    (s : State) : EffectEnds s i (effect s) := by
  cases i <;> cases h
  case openPort port baud => exact openPortOp_ends port baud s
  case closePort => exact closePortOp_ends s
  case flushPort => exact flushPortOp_ends s
  case csrRead idx => exact csrReadOp_ends idx s
  case csrWrite idx v => exact csrWriteOp_ends idx v s
  case crcVerify m n strict => exact crcVerifyOp_ends m n strict s
  case buildReadStatus | buildWriteSingle => exact .succeeded _ _ _
  case crcCompute | crcInsert | crcExtract | crcSet | buildWriteMultiple | decodeStatusBank =>
    exact guarded_ends _ _ _ _ s

/-! ### The phases TX to DECODE -/

/-- s in VERIFY once n bytes of TXBUF are written and r is read, RES.warn being w (R115, R116). -/
@[simps] def verifying (cmd : WireCmd) (n : Nat) (r : Bytes) (w : Bool) (s : State) : State :=
  { answered s cmd n r with phase := .verify, res := { s.res with warn := w } }

/-- What the phases TX to DECODE leave of s: the write refused, the read failed, VERIFY ended the operation, or the
response decoded. -/
inductive FrameEnds (cmd : WireCmd) (n : Nat) (s : State) : State → Prop where
  | refused : FrameEnds cmd n s (raise .writeFail (writeRefused s (memReadBytes s.txbuf 0 n) s.txbuf))
  | failed (why : ReadFail) :
    FrameEnds cmd n s
      (raise (readError why) (exchanged s cmd (memReadBytes s.txbuf 0 n) s.txbuf s.rxbuf))
  | rejected (r : Bytes) (w : Bool) (e : OpError) (he : e = .crcMismatch ∨ e = .malformedAck) :
    FrameEnds cmd n s (raise e (verifying cmd n r w s))
  | acknowledged (r : Bytes) (w : Bool) : FrameEnds cmd n s (succeed 0#32 [] (verifying cmd n r w s))
  | decoded (r : Bytes) (w : Bool) (hc : cmd = .readRegisters) (v : Word) (bs : Bytes) :
    FrameEnds cmd n s (succeed v [] (updateState bs (verifying cmd n r w s)))

theorem verifyAck_ends (cmd : WireCmd) (n : Nat) (value : State → Word) (r : Bytes) (w : Bool) (s : State) :
    FrameEnds cmd n s
      (let t := verifyAck cmd (verifying cmd n r w s)
       if t.phase = .decode then decodeUpdate value t else t) := by
  rcases verifyAck_cases cmd (verifying cmd n r w s) with ⟨hc, h⟩ | ⟨-, -, h⟩ | ⟨-, -, h⟩
  · simpa [h] using .decoded r w hc _ _
  · simpa [h] using .rejected r w .malformedAck (.inr rfl)
  · simpa [h] using .acknowledged r w

theorem transact_ends (cmd : WireCmd) (n : Nat) (value : State → Word) (s : State) :
    FrameEnds cmd n s (transact cmd n value s) := by
  cases hw : feedOk s.feed with
  | false =>
    have h : transact cmd n value s = transmit n s := by simp [transact, transmit_false hw]
    rw [h, transmit_false hw]
    exact .refused
  | true =>
    cases hr : feedRead (respLen cmd) (afterOk s.feed) with
    | fail why =>
      have h : transact cmd n value s = receive cmd (turnaround (transmit n s)) := by
        simp [transact, transmit_true hw, receive, hr]
      have h' : receive cmd (turnaround (transmit n s)) =
          raise (readError why) (exchanged s cmd (memReadBytes s.txbuf 0 n) s.txbuf s.rxbuf) := by
        rw [receive_fail (by simpa [transmit_true hw] using hr), transmit_true hw]
        ext <;> simp [exchanged, hr]
      rw [h, h']
      exact .failed why
    | ok r =>
      rw [transact_ok hw hr]
      have hv : setPhase .verify (answered s cmd n r) = verifying cmd n r s.res.warn s := rfl
      rw [hv]
      rcases verifyResponse_cases cmd (verifying cmd n r s.res.warn s) with ⟨-, h⟩ | ⟨-, -, h⟩ | ⟨-, -, h⟩
      · rw [h]
        exact verifyAck_ends cmd n value r _ s
      · simpa [h] using .rejected r s.res.warn .crcMismatch (.inl rfl)
      · rw [h]
        exact verifyAck_ends cmd n value r true s

/-! ### What the phases TX to DECODE leave alone -/

/-- The configuration, the operation in REQ, the link and what a return writes stand; the history can have more at its
end. -/
structure SameSetting (s t : State) : Prop where
  params : t.params = s.params
  strict : t.strict = s.strict
  crcSwap : t.crcSwap = s.crcSwap
  addr : t.addr = s.addr
  link : t.link = s.link
  req : t.req = s.req
  last : t.lastResult = s.lastResult
  inbox : t.inbox = s.inbox
  returned : t.returned = s.returned
  history : s.history <+: t.history

theorem SameSetting.refl (s : State) : SameSetting s s :=
  ⟨rfl, rfl, rfl, rfl, rfl, rfl, rfl, rfl, rfl, List.prefix_rfl⟩

theorem SameSetting.trans {s t u : State} (h : SameSetting s t) (h' : SameSetting t u) : SameSetting s u where
  params := h'.params.trans h.params
  strict := h'.strict.trans h.strict
  crcSwap := h'.crcSwap.trans h.crcSwap
  addr := h'.addr.trans h.addr
  link := h'.link.trans h.link
  req := h'.req.trans h.req
  last := h'.last.trans h.last
  inbox := h'.inbox.trans h.inbox
  returned := h'.returned.trans h.returned
  history := h.history.trans h'.history

/-- The device-state registers and VALID. -/
structure SameDevice (s t : State) : Prop where
  switch : t.devSwitch = s.devSwitch
  mode : t.devMode = s.devMode
  voltage : t.devVoltage = s.devVoltage
  current : t.devCurrent = s.devCurrent
  valid : t.valid = s.valid

theorem frameEnds_setting {cmd : WireCmd} {n : Nat} {s t : State} (h : FrameEnds cmd n s t) : SameSetting s t := by
  cases h <;> constructor <;> simp [writeRefused, exchanged]

theorem frameEnds_timer {cmd : WireCmd} {n : Nat} {s t : State} (h : FrameEnds cmd n s t) (ht : s.timer = .stopped) :
    t.timer = .stopped := by
  cases h <;> simp [writeRefused, exchanged, ht]

/-- Only a decoded response writes the device state, and then the operation is OK (R117). -/
theorem frameEnds_device {cmd : WireCmd} {n : Nat} {s t : State} (h : FrameEnds cmd n s t) :
    SameDevice s t ∨ (cmd = .readRegisters ∧ t.res.err = 0#3) := by
  cases h with
  | decoded r w hc => exact .inr ⟨hc, rfl⟩
  | _ => exact .inl (by constructor <;> simp [writeRefused, exchanged])

/-- The events of a frame, in their order (R53). -/
theorem frameEnds_history {cmd : WireCmd} {n : Nat} {s t : State} (h : FrameEnds cmd n s t) :
    t.history = s.history ++ [.write (memReadBytes s.txbuf 0 n) false] ∨
    t.history =
      s.history ++ [.write (memReadBytes s.txbuf 0 n) true, .wait s.params.turnaround,
        .read (respLen cmd) (feedRead (respLen cmd) (afterOk s.feed))] := by
  cases h with
  | refused => exact .inl (by simp [writeRefused])
  | _ => exact .inr (by simp [exchanged])

/-- A frame's operation ends OK or in an error that is no validation error, with no value and no data (R137, R139). -/
theorem frameEnds_res {cmd : WireCmd} {n : Nat} {s t : State} (h : FrameEnds cmd n s t) :
    t.res.err = 0#3 ∨ (t.res.err ≠ 1#3 ∧ t.res.value = 0#32 ∧ t.res.data = []) := by
  cases h with
  | acknowledged | decoded => exact .inl rfl
  | refused => exact .inr ⟨by simp [errorResult, errCode], rfl, rfl⟩
  | failed why => exact .inr ⟨by cases why <;> simp [errorResult, errCode, readError], rfl, rfl⟩
  | rejected r w e he => exact .inr ⟨by rcases he with rfl | rfl <;> simp [errorResult, errCode], rfl, rfl⟩

/-! ### Whole operations -/

/-- s in TX with nothing yet in RES: TXBUF is tb and REQ is q (R115). -/
@[simps] def inTx (q : Option Latch) (tb : Memory) (s : State) : State :=
  { s with txbuf := tb, req := q, res := Result.blank, phase := .tx }

/-- The states in which operation i can end: its effect done in CHECK, a check of CHECK failed, or a frame sent. -/
inductive ExecEnds (i : Instr) (s : State) : State → Prop where
  | effect {t : State} (h : EffectEnds (accept (requestOf i) s) i t) : ExecEnds i s t
  | frame {t : State} (cmd : WireCmd) (n : Nat) (q : Option Latch) (tb : Memory)
      (hcmd : cmd = .readRegisters → readsStatus i = true ∨ ∃ a c, i = .wireReadStatus a c)
      (hq : (∃ r, encode i = .host r) → q = (accept (requestOf i) s).req)
      (h : FrameEnds cmd n (inTx q tb s) t) : ExecEnds i s t

theorem exec_ends {i : Instr} {s t : State} (h : exec i s = .next t) : ∃ u, ExecEnds i s u ∧ t = finish u := by
  cases hc : courseOf i with
  | none =>
    obtain ⟨cmd, hi⟩ := carries_of_exec hc h
    obtain rfl : runWireOp cmd (frameOf i) s = t := by simpa [exec_wire hi] using h
    refine ⟨_, .frame cmd (frameOf i).length s.req _ (fun hr => ?_) ?_ (transact_ends _ _ _ _), rfl⟩
    · subst hr
      exact .inr (wireReadStatus_of_carries hi)
    · rintro ⟨r, hr⟩
      cases hi <;> cases hr
  | some c =>
    cases c with
    | localEffect effect =>
      obtain rfl : runLocalOp (requestOf i) effect s = t := by simpa [exec_localEffect hc] using h
      exact ⟨_, .effect (localEffect_ends hc _), rfl⟩
    | frame op =>
      obtain rfl : runFrameOp (requestOf i) op s = t := by simpa [exec_frame hc] using h
      rcases runFrameOp_cases (requestOf i) op s with ⟨e, -, hrun⟩ | ⟨-, -, -, hrun⟩
      · exact ⟨_, .effect (.raised i e), hrun⟩
      · exact ⟨_, .frame op.cmd _ _ _ (fun hr => .inl (readsStatus_of_frame hc hr)) (fun _ => rfl)
          (transact_ends _ _ _ _), hrun⟩

end Sys2Proof.Machine
end

section
/-! PROOF of O15, O20, O29, O30, O48, O49 and O50: what an operation does not touch, read off the states in which it
can end (`exec_ends`). -/

namespace Sys2Proof.Machine

/-- Settles O15: of the states in which an operation ends, only those of CSR_WRITE differ in CTRL or ADDR. -/
theorem onlyCsrWriteConfigures : Obligations.OnlyCsrWriteConfigures := by
  intro i s t hi h
  obtain ⟨u, hu, rfl⟩ := exec_ends h
  cases hu with
  | effect he =>
    cases he with
    | ctrl idx v | address idx v => exact absurd rfl (hi idx v)
    | _ => simp
  | frame cmd n q tb _ _ hf =>
    have hs := frameEnds_setting hf
    exact ⟨hs.strict, hs.crcSwap, hs.addr, hs.params⟩

/-- Settles O20: of the states in which an operation ends, only those of OPEN and CLOSE differ in the link. -/
theorem onlyOpenAndCloseChangeTheLink : Obligations.OnlyOpenAndCloseChangeTheLink := by
  intro i s t hopen hclose h
  obtain ⟨u, hu, rfl⟩ := exec_ends h
  cases hu with
  | effect he =>
    cases he with
    | opened port baud => exact absurd rfl (hopen port baud)
    | closed => exact absurd rfl hclose
    | _ => simp
  | frame cmd n q tb _ _ hf => exact (frameEnds_setting hf).link

theorem respLen_mem (cmd : WireCmd) : respLen cmd = 23 ∨ respLen cmd = 9 ∨ respLen cmd = 8 := by
  cases cmd <;> decide

/-- Settles O29: the link operations, whose events are others, are not frame-issuing; what the phases of a frame
record is the refused write, or the write, the wait and the read. -/
theorem frameEventsComeInOrder : Obligations.FrameEventsComeInOrder := by
  intro i s t hi h
  obtain ⟨u, hu, rfl⟩ := exec_ends h
  cases hu with
  | effect he =>
    cases he with
    | opened | openFailed | closed | flushed => cases hi
    | _ => exact .inl (by simp)
  | frame cmd n q tb _ _ hf =>
    rcases frameEnds_history hf with hw | hr
    · exact .inr (.inl ⟨_, hw⟩)
    · exact .inr (.inr ⟨_, _, _, respLen_mem cmd, hr⟩)

/-- Settles O30: only a decoded response writes the device state, and only a read of the status bank decodes one. -/
theorem onlyStatusReadsWriteDeviceState : Obligations.OnlyStatusReadsWriteDeviceState := by
  intro i s t hi hwire h
  obtain ⟨u, hu, rfl⟩ := exec_ends h
  cases hu with
  | effect he => cases he <;> simp
  | frame cmd n q tb hcmd _ hf =>
    rcases frameEnds_device hf with ⟨hswitch, hmode, hvoltage, hcurrent, hvalid⟩ | ⟨hc, -⟩
    · exact ⟨hswitch, hmode, hvoltage, hcurrent, hvalid⟩
    · rcases hcmd hc with hr | ⟨a, c, rfl⟩
      · simp [hi] at hr
      · exact absurd rfl (hwire a c)

/-- An operation of the host ends with its own request still in REQ (R36, R113). -/
theorem execEnds_host {i : Instr} {s u : State} (hi : ∃ r, encode i = .host r) (hu : ExecEnds i s u) :
    u.req = (accept (requestOf i) s).req ∧ u.lastResult = s.lastResult ∧ u.returned = s.returned := by
  cases hu with
  | effect he => cases he <;> simp
  | frame cmd n q tb _ hq hf =>
    have hs := frameEnds_setting hf
    exact ⟨hs.req.trans (hq hi), hs.last, hs.returned⟩

/-- The opcode tells CSR_READ from every other operation (R82). -/
theorem requestOf_opc_csrRead (i : Instr) : (requestOf i).opc = 0x04#8 ↔ ∃ idx, i = .csrRead idx := by
  cases i
  case csrRead idx => exact ⟨fun _ => ⟨idx, rfl⟩, fun _ => rfl⟩
  all_goals simp [requestOf, encode]

/-- Settles O48: the return (`finish`) does all of it, from a REQ that still holds the operation's request. -/
theorem everyCompletionReturnsItsResult : Obligations.EveryCompletionReturnsItsResult := by
  intro i s t hi h
  obtain ⟨u, hu, rfl⟩ := exec_ends h
  obtain ⟨hreq, hlast, hret⟩ := execEnds_host hi hu
  have hread : isCsrRead u = true ↔ ∃ idx, i = .csrRead idx := by
    rw [isCsrRead_congr hreq, isCsrRead_accept, beq_iff_eq]
    exact requestOf_opc_csrRead i
  refine ⟨rfl, rfl, by rw [finish_returned, hret, finish_res], fun hne => ?_, fun heq => ?_⟩
  · rw [finish_lastResult, if_neg fun hc => (hread.mp hc).elim hne, finish_res]
  · rw [finish_lastResult, if_pos (hread.mpr heq), hlast]

/-- Settles O49: an effect with an event does not end in VALIDATION, and no phase after CHECK raises it (R139). -/
theorem validationComesBeforeAnyIo : Obligations.ValidationComesBeforeAnyIo := by
  intro i s t h herr
  obtain ⟨u, hu, rfl⟩ := exec_ends h
  rw [finish_res] at herr
  cases hu with
  | effect he =>
    cases he with
    | opened | openFailed | closed | flushed => cases herr
    | _ => simp
  | frame cmd n q tb _ _ hf =>
    rcases frameEnds_res hf with hok | ⟨hne, -⟩
    · simp [hok] at herr
    · exact absurd herr hne

/-- Settles O50: an end with an error is a raise, which clears the value and the data, and none of the changes of the
link or the device state comes with one (R137, R140). -/
theorem raisedErrorDiscardsData : Obligations.RaisedErrorDiscardsData := by
  intro i s t h herr
  obtain ⟨u, hu, rfl⟩ := exec_ends h
  rw [finish_res] at herr
  cases hu with
  | effect he =>
    cases he with
    | raised | openFailed => simp [errorResult]
    | _ => exact absurd rfl herr
  | frame cmd n q tb _ _ hf =>
    obtain ⟨-, hvalue, hdata⟩ := (frameEnds_res hf).resolve_left herr
    have hdev := (frameEnds_device hf).resolve_right fun hok => herr hok.2
    exact ⟨hvalue, hdata, (frameEnds_setting hf).link, hdev.valid, hdev.switch, hdev.mode, hdev.voltage, hdev.current⟩

end Sys2Proof.Machine
end

section
/-! PROOF of O1 to O6, O51, O52 and O56: what one phase edge and one step can do (R111, R112, R150). -/

namespace Sys2Proof.Machine

/-! ### One phase edge -/

theorem frameOpIn_congr {s t : State} (h : t.req = s.req) : frameOpIn t = frameOpIn s := by
  simp [frameOpIn, h]

/-- What a phase edge does: nothing in IDLE; in CHECK an effect or the checks of a frame operation; in a phase of a
frame that phase's part of it; in DONE the return (R111). -/
theorem phaseEdge_cases {s t : State} (h : phaseEdge s = .next t) :
    (s.phase = .idle ∧ t = s) ∨
    (s.phase = .check ∧ ∃ i, EffectEnds s i t) ∨
    (s.phase = .check ∧ ∃ op, frameOpIn s = some op ∧ t = checkFrameOp op.paramsOk s) ∨
    (inFrame s.phase = true ∧ ∃ op, frameOpIn s = some op ∧ t = frameEdge op s) ∨
    (s.phase = .done ∧ t = finish s) := by
  cases hp : s.phase <;> simp only [phaseEdge, hp] at h
  case idle => cases h; exact .inl ⟨rfl, rfl⟩
  case done => cases h; exact .inr (.inr (.inr (.inr ⟨rfl, rfl⟩)))
  case check =>
    cases hq : s.req with
    | none => simp [checkEdge, hq] at h
    | some q =>
      simp only [checkEdge, hq] at h
      split at h <;> cases h
      · exact .inr (.inl ⟨rfl, .closePort, .raised _ _⟩)
      · next effect hc =>
        obtain ⟨i, hi⟩ := courseOfRequest_some hc
        exact .inr (.inl ⟨rfl, i, localEffect_ends hi s⟩)
      · next op hc => exact .inr (.inr (.inl ⟨rfl, op, by simp [frameOpIn, hq, hc], rfl⟩))
  -- the seven phases of a frame, BUILD to DECODE
  all_goals
    split at h <;> cases h
    next op hop => exact .inr (.inr (.inr (.inl ⟨rfl, op, hop, rfl⟩)))

/-! ### The order of the phases -/

theorem effectEnds_phase {i : Instr} {s t : State} (h : EffectEnds s i t) : t.phase = .done := by
  cases h <;> rfl

theorem checkFrameOp_phase (p : Bool) (s : State) :
    (checkFrameOp p s).phase = .done ∨ (checkFrameOp p s).phase = .build := by
  rcases checkFrameOp_cases p s with ⟨-, h⟩ | ⟨-, -, h⟩ | ⟨-, -, -, h⟩ | ⟨-, -, -, h⟩ <;> simp [h]

theorem transmit_phase (n : Nat) (s : State) : (transmit n s).phase = .done ∨ (transmit n s).phase = .wait := by
  cases h : feedOk s.feed
  · simp [transmit_false h]
  · simp [transmit_true h]

theorem receive_phase (cmd : WireCmd) (s : State) :
    (receive cmd s).phase = .done ∨ (receive cmd s).phase = .verify := by
  cases h : feedRead (respLen cmd) s.feed
  · simp [receive_ok h]
  · simp [receive_fail h]

theorem verifyAck_phase (cmd : WireCmd) (s : State) :
    (verifyAck cmd s).phase = .done ∨ (verifyAck cmd s).phase = .decode := by
  rcases verifyAck_cases cmd s with ⟨-, h⟩ | ⟨-, -, h⟩ | ⟨-, -, h⟩ <;> simp [h]

theorem verifyResponse_phase (cmd : WireCmd) (s : State) :
    (verifyResponse cmd s).phase = .done ∨ (verifyResponse cmd s).phase = .decode := by
  rcases verifyResponse_cases cmd s with ⟨-, h⟩ | ⟨-, -, h⟩ | ⟨-, -, h⟩
  · exact h ▸ verifyAck_phase cmd s
  · simp [h]
  · exact h ▸ verifyAck_phase cmd (setWarn s)

/-- Settles O6, phase by phase. -/
theorem phaseMovesAlongTheEdges : Obligations.PhaseMovesAlongTheEdges := by
  intro s t h
  rcases phaseEdge_cases h with ⟨hp, rfl⟩ | ⟨hp, i, he⟩ | ⟨hp, op, -, rfl⟩ | ⟨hf, op, -, rfl⟩ | ⟨hp, rfl⟩
  · simp [hp]
  · simp [hp, effectEnds_phase he]
  · rcases checkFrameOp_phase op.paramsOk s with h | h <;> simp [hp, h]
  · cases hp : s.phase <;> simp only [frameEdge, hp]
    case tx => rcases transmit_phase (op.layout (reqAddr s)).length s with h | h <;> simp [h]
    case rx => rcases receive_phase op.cmd s with h | h <;> simp [h]
    case verify => rcases verifyResponse_phase op.cmd s with h | h <;> simp [h]
    case idle | check | done => simp [hp, inFrame] at hf
    -- BUILD, SEAL, WAIT and DECODE have one edge each
    all_goals simp [decodeUpdate]
  · simp [hp]

/-! ### What no step but a reset touches, and what only grows -/

/-- The events to come stand; the history and the results returned can have more at their ends. -/
structure Continues (s t : State) : Prop where
  inbox : t.inbox = s.inbox
  history : s.history <+: t.history
  returned : s.returned <+: t.returned

theorem Continues.finish {s t : State} (h : Continues s t) : Continues s (finish t) :=
  ⟨h.inbox, h.history, h.returned.trans (List.prefix_append _ _)⟩

theorem effectEnds_continues {i : Instr} {s t : State} (h : EffectEnds s i t) : Continues s t := by
  cases h <;> constructor <;> simp

theorem SameSetting.continues {s t : State} (h : SameSetting s t) : Continues s t :=
  ⟨h.inbox, h.history, h.returned ▸ List.prefix_rfl⟩

theorem checkFrameOp_setting (p : Bool) (s : State) : SameSetting s (checkFrameOp p s) := by
  rcases checkFrameOp_cases p s with ⟨-, h⟩ | ⟨-, -, h⟩ | ⟨-, -, -, h⟩ | ⟨-, -, -, h⟩ <;> constructor <;> simp [h]

theorem buildTx_setting (f : Bytes) (s : State) : SameSetting s (buildTx f s) := by constructor <;> simp

theorem sealTx_setting (n : Nat) (s : State) : SameSetting s (sealTx n s) := by constructor <;> simp

theorem transmit_setting (n : Nat) (s : State) : SameSetting s (transmit n s) := by
  cases h : feedOk s.feed
  · constructor <;> simp [transmit_false h]
  · constructor <;> simp [transmit_true h]

theorem turnaround_setting (s : State) : SameSetting s (turnaround s) := by constructor <;> simp

theorem receive_setting (cmd : WireCmd) (s : State) : SameSetting s (receive cmd s) := by
  cases h : feedRead (respLen cmd) s.feed
  · constructor <;> simp [receive_ok h]
  · constructor <;> simp [receive_fail h]

theorem verifyAck_setting (cmd : WireCmd) (s : State) : SameSetting s (verifyAck cmd s) := by
  rcases verifyAck_cases cmd s with ⟨-, h⟩ | ⟨-, -, h⟩ | ⟨-, -, h⟩ <;> constructor <;> simp [h]

theorem verifyResponse_setting (cmd : WireCmd) (s : State) : SameSetting s (verifyResponse cmd s) := by
  rcases verifyResponse_cases cmd s with ⟨-, h⟩ | ⟨-, -, h⟩ | ⟨-, -, h⟩
  · exact h ▸ verifyAck_setting cmd s
  · constructor <;> simp [h]
  · have hw := verifyAck_setting cmd (setWarn s)
    exact h ▸ { hw with }

theorem frameEdge_setting (op : FrameOp) (s : State) : SameSetting s (frameEdge op s) := by
  unfold frameEdge
  split
  · exact buildTx_setting _ s
  · exact sealTx_setting _ s
  · exact transmit_setting _ s
  · exact turnaround_setting s
  · exact receive_setting op.cmd s
  · exact verifyResponse_setting op.cmd s
  · constructor <;> simp [decodeUpdate]
  -- IDLE, CHECK and DONE are no phases of a frame
  all_goals exact SameSetting.refl s

theorem phaseEdge_continues {s t : State} (h : phaseEdge s = .next t) : Continues s t := by
  have self : Continues s s := (SameSetting.refl s).continues
  rcases phaseEdge_cases h with ⟨-, rfl⟩ | ⟨-, i, he⟩ | ⟨-, op, -, rfl⟩ | ⟨-, op, -, rfl⟩ | ⟨-, rfl⟩
  · exact self
  · exact effectEnds_continues he
  · exact (checkFrameOp_setting _ s).continues
  · exact (frameEdge_setting op s).continues
  · exact self.finish

theorem exec_continues {i : Instr} {s t : State} (h : exec i s = .next t) : Continues s t := by
  obtain ⟨u, hu, rfl⟩ := exec_ends h
  refine Continues.finish ?_
  cases hu with
  | effect he =>
    obtain ⟨hi, hh, hr⟩ := effectEnds_continues he
    exact ⟨hi, hh, hr⟩
  | frame cmd n q tb _ _ hf =>
    obtain ⟨hi, hh, hr⟩ := (frameEnds_setting hf).continues
    exact ⟨hi, hh, hr⟩

theorem runFrame_continues {s t : State} (h : runFrame s = .next t) : Continues s t := by
  unfold runFrame at h
  split at h
  · cases h
  · split at h
    · exact exec_continues h
    · cases h

theorem runRequest_continues {r : Request} {s t : State} (h : runRequest r s = .next t) : Continues s t := by
  unfold runRequest at h
  split at h
  · exact exec_continues h
  · cases h
    exact Continues.finish ⟨rfl, List.prefix_rfl, List.prefix_rfl⟩

/-- Settles O3: a presented request is not the event that a step of a busy block takes, and neither the frame nor a
phase edge touches the inbox. -/
theorem busyBlockHoldsTheRequest : Obligations.BusyBlockHoldsTheRequest := by
  intro s t e rest hbusy he hinbox h
  have hp : proceed s = .next t := by
    cases e with
    | request | accept => simpa [step, hinbox] using h
    | elapse | reset => cases he
  rw [← hinbox]
  rcases proceed_cases hp with ⟨hidle, -⟩ | ⟨hidle, -⟩ | ⟨hidle, -⟩ | ⟨-, hf⟩ | ⟨-, -, hf⟩
  · exact absurd hidle hbusy
  · exact absurd hidle hbusy
  · exact absurd hidle hbusy
  · exact (runFrame_continues hf).inbox
  · exact (phaseEdge_continues hf).inbox

/-- Settles O51: reset keeps both records, and nothing else that a step does takes anything off them. -/
theorem historyOnlyGrows : Obligations.HistoryOnlyGrows := by
  intro s t h
  have kept : ∀ {u : State} {rest : List HostEvent}, Continues { s with inbox := rest } u →
      s.history <+: u.history ∧ s.returned <+: u.returned := fun hc => ⟨hc.history, hc.returned⟩
  rcases step_cases h with ⟨rest, -, rfl⟩ | ⟨rest, -, he⟩ | ⟨-, hp⟩
  · exact ⟨List.prefix_rfl, List.prefix_rfl⟩
  · exact kept (phaseEdge_continues he)
  · rcases proceed_cases hp with ⟨-, r, rest, -, hr⟩ | ⟨-, r, rest, -, rfl⟩ | ⟨-, rfl⟩ | ⟨-, hf⟩ | ⟨-, -, he⟩
    · exact kept (runRequest_continues hr)
    · exact ⟨List.prefix_rfl, List.prefix_rfl⟩
    · exact ⟨List.prefix_rfl, List.prefix_rfl⟩
    · exact kept (runFrame_continues hf)
    · exact kept (phaseEdge_continues he)

/-! ### Reset, acceptance and the decoded operation -/

theorem step_idle_of_empty {s : State} (hp : s.phase = .idle) (hi : s.inbox = []) : step s = .next s := by
  simp [step, proceed, hp, hi]

/-- Settles O4: the reset state's fields, and an idle block with nothing in its inbox stays. -/
theorem resetRestoresTheBlock : Obligations.ResetRestoresTheBlock := by
  intro s rest h
  refine ⟨blockReset { s with inbox := rest }, by simp [step, h], ?_⟩
  simp only [blockReset_strict, blockReset_crcSwap, blockReset_addr, blockReset_link, blockReset_valid,
    blockReset_lastResult, blockReset_devSwitch, blockReset_devMode, blockReset_devVoltage, blockReset_devCurrent,
    blockReset_phase, blockReset_req, blockReset_timer, blockReset_params, blockReset_history, blockReset_returned,
    blockReset_inbox, blockReset_feed, true_and]
  exact fun hrest => step_idle_of_empty rfl hrest

theorem step_accept {s : State} {r : Request} {rest : List HostEvent} (hp : s.phase = .idle)
    (hi : s.inbox = .accept r :: rest) : step s = .next (accept r { s with inbox := rest }) := by
  simp [step, proceed, hp, hi]

/-- Settles O5: the step is `accept`. -/
theorem acceptanceSamplesTheConfiguration : Obligations.AcceptanceSamplesTheConfiguration := by
  intro s r rest hp hi
  exact ⟨Result.blank, step_accept hp hi⟩

theorem step_request {s : State} {r : Request} {rest : List HostEvent} (hp : s.phase = .idle)
    (hi : s.inbox = .request r :: rest) : step s = runRequest r { s with inbox := rest } := by
  simp [step, proceed, hp, hi]

theorem runRequest_of_decode {r : Request} {i : Instr} (h : decode (.host r) = .ok i) (s : State) :
    runRequest r s = exec i s := by
  simp [runRequest, h]

theorem step_tx {s : State} (hp : s.phase = .tx) (hi : ∀ e rest, s.inbox = e :: rest → isPresented e = true) :
    step s = runFrame s := by
  cases hq : s.inbox with
  | nil => simp [step, proceed, hp, hq]
  | cons e rest =>
    have he := hi e rest hq
    cases e with
    | request | accept => simp [step, proceed, hp, hq]
    | elapse | reset => cases he

theorem runFrame_of_decode {s : State} {f : Bytes} {i : Instr} (hf : fetchFrame s = some f)
    (hd : decode (.wire f) = .ok i) : runFrame s = exec i s := by
  simp [runFrame, hf, hd]

/-- Settles O1. -/
theorem stepRunsTheDecodedOperation : Obligations.StepRunsTheDecodedOperation := by
  refine ⟨fun s r rest i hp hi hd => ?_, fun s f i hp hi hf hd _ => ?_⟩
  · rw [step_request hp hi, runRequest_of_decode hd]
  · rw [step_tx hp hi, runFrame_of_decode hf hd]

/-! ### Reserved opcodes -/

/-- No row of the opcode table has a reserved opcode (R82, R85). -/
theorem reservedOpcode_of_encode {i : Instr} {q : Request} (h : encode i = .host q) :
    reservedOpcode q.opc = false := by
  cases i <;> cases h <;> rfl

theorem decodeRequest_reserved {r : Request} (h : reservedOpcode r.opc = true) :
    ∃ e, decodeRequest r = .error e := by
  cases hd : decodeRequest r with
  | error e => exact ⟨e, rfl⟩
  | ok i =>
    obtain ⟨q, hq, hopc⟩ := decodeRequest_ok hd
    rw [← hopc, reservedOpcode_of_encode hq] at h
    cases h

theorem ne_csrRead_of_reserved {r : Request} (h : reservedOpcode r.opc = true) : r.opc ≠ 0x04#8 := by
  intro hr
  rw [hr] at h
  cases h

/-- Settles O2: the request decodes to nothing, and its whole run is the raise of BAD_OPCODE. -/
theorem reservedOpcodeCompletesAtOnce : Obligations.ReservedOpcodeCompletesAtOnce := by
  intro s r rest hp hi hr
  obtain ⟨e, he⟩ := decodeRequest_reserved hr
  have hd : decode (.host r) = .error e := he
  rw [step_request hp hi, runRequest, hd]
  exact congrArg _ (finish_raise_accept (ne_csrRead_of_reserved hr) _ _)

theorem phaseEdge_accept_reserved {r : Request} (h : reservedOpcode r.opc = true) (s : State) :
    phaseEdge (accept r s) = .next (raise .badOpcode (accept r s)) := by
  obtain ⟨e, he⟩ := decodeRequest_reserved h
  simp [phaseEdge, checkEdge, courseOfRequest, he]

theorem phaseEdge_done {s : State} (h : s.phase = .done) : phaseEdge s = .next (finish s) := by
  simp [phaseEdge, h]

/-- Settles O56: the edge out of CHECK raises BAD_OPCODE and the edge out of DONE returns it, REQ being empty then. -/
theorem reservedOpcodeFailsEdgeByEdge : Obligations.ReservedOpcodeFailsEdgeByEdge := by
  intro s r hr
  have hdone := phaseEdge_done (raise_phase .badOpcode (accept r s))
  refine ⟨none, ?_⟩
  simp only [phaseRun, phaseEdge_accept_reserved hr, hdone, finish_raise_accept (ne_csrRead_of_reserved hr)]
  rfl

/-! ### Completion of every well-formed operation -/

/-- Settles O52: every arm of `exec` but write_multiple's answers outright, and well-formedness is that one's guard. -/
theorem wellFormedOperationsComplete : Obligations.WellFormedOperationsComplete := by
  intro i s hi
  cases i
  case wireWriteMultiple a start vals c =>
    simp only [Instr.wf, Bool.and_eq_true] at hi
    obtain ⟨⟨-, hvals⟩, -⟩ := hi
    exact ⟨_, if_pos hvals⟩
  all_goals exact ⟨_, rfl⟩

end Sys2Proof.Machine
end

section
/-! PROOF of O7 and O28 (R91, R111): the phase edges run the course of the operation, and of its request an operation
reads only whether the opcode is CSR_READ's, so two requests for one course end alike. -/

namespace Sys2Proof.Machine

/-! ### A run of phase edges -/

theorem phaseRun_succ {s t : State} (h : phaseEdge s = .next t) (k : Nat) : phaseRun (k + 1) s = phaseRun k t := by
  simp [phaseRun, h]

theorem phaseRun_idle {s : State} (h : s.phase = .idle) (k : Nat) : phaseRun k s = .next s := by
  induction k with
  | zero => rfl
  | succ k ih =>
    have hstay : phaseEdge s = .next s := by simp [phaseEdge, h]
    rw [phaseRun_succ hstay, ih]

theorem phaseRun_done {s : State} (h : s.phase = .done) (k : Nat) : phaseRun (k + 1) s = .next (finish s) := by
  rw [phaseRun_succ (phaseEdge_done h), phaseRun_idle (finish_phase s)]

section
variable {s : State} {op : FrameOp}

theorem phaseEdge_frame (hp : inFrame s.phase = true) (hop : frameOpIn s = some op) :
    phaseEdge s = .next (frameEdge op s) := by
  cases h : s.phase <;> simp only [h, inFrame, Bool.false_eq_true] at hp <;> simp only [phaseEdge, h, hop]

theorem frameEdge_build (h : s.phase = .build) : frameEdge op s = buildTx (op.layout (reqAddr s)) s := by
  simp only [frameEdge, h]

theorem frameEdge_seal (h : s.phase = .seal) : frameEdge op s = sealTx (op.layout (reqAddr s)).length s := by
  simp only [frameEdge, h]

theorem frameEdge_tx (h : s.phase = .tx) : frameEdge op s = transmit (op.layout (reqAddr s)).length s := by
  simp only [frameEdge, h]

theorem frameEdge_wait (h : s.phase = .wait) : frameEdge op s = turnaround s := by
  simp only [frameEdge, h]

theorem frameEdge_rx (h : s.phase = .rx) : frameEdge op s = receive op.cmd s := by
  simp only [frameEdge, h]

theorem frameEdge_verify (h : s.phase = .verify) : frameEdge op s = verifyResponse op.cmd s := by
  simp only [frameEdge, h]

theorem frameEdge_decode (h : s.phase = .decode) : frameEdge op s = decodeUpdate op.value s := by
  simp only [frameEdge, h]

/-- The edge out of a phase of a frame, followed by k more. -/
theorem phaseRun_frame {t : State} (hop : frameOpIn s = some op) (hp : inFrame s.phase = true)
    (ht : frameEdge op s = t) (k : Nat) : phaseRun (k + 1) s = phaseRun k t :=
  ht ▸ phaseRun_succ (phaseEdge_frame hp hop) k

theorem SameSetting.frameOpIn {t : State} (h : SameSetting s t) (hop : frameOpIn s = some op) :
    frameOpIn t = some op := (frameOpIn_congr h.req).trans hop

theorem phaseRun_verify (hop : frameOpIn s = some op) (hp : s.phase = .verify) :
    phaseRun 3 s =
      .next (finish
        (if (verifyResponse op.cmd s).phase = .decode then decodeUpdate op.value (verifyResponse op.cmd s)
        else verifyResponse op.cmd s)) := by
  rw [phaseRun_frame hop (by simp [hp, inFrame]) (frameEdge_verify hp)]
  rcases verifyResponse_phase op.cmd s with h | h
  · simp [phaseRun_done h, h]
  · have hop' := (verifyResponse_setting op.cmd s).frameOpIn hop
    rw [phaseRun_frame hop' (by simp [h, inFrame]) (frameEdge_decode h), if_pos h]
    exact phaseRun_done rfl 0

/-- The edges from TX on, with the return, are the fused phases TX to DONE (R111). -/
theorem phaseRun_tx (hop : frameOpIn s = some op) (hp : s.phase = .tx) :
    phaseRun 6 s = .next (finish (transact op.cmd (op.layout (reqAddr s)).length op.value s)) := by
  rw [phaseRun_frame hop (by simp [hp, inFrame]) (frameEdge_tx hp)]
  generalize (op.layout (reqAddr s)).length = n
  rcases transmit_phase n s with h | hwait
  · simp [phaseRun_done h, transact, h]
  have hop1 := (transmit_setting n s).frameOpIn hop
  rw [phaseRun_frame hop1 (by simp [hwait, inFrame]) (frameEdge_wait hwait)]
  have hop2 := (turnaround_setting _).frameOpIn hop1
  rw [phaseRun_frame hop2 rfl (t := receive op.cmd (turnaround (transmit n s))) rfl]
  rcases receive_phase op.cmd (turnaround (transmit n s)) with h | hverify
  · simp [phaseRun_done h, transact, hwait, h]
  have hop3 := (receive_setting op.cmd _).frameOpIn hop2
  rw [phaseRun_verify hop3 hverify]
  simp [transact, hwait, hverify]

/-- The edges from BUILD on (R111). -/
theorem phaseRun_build (hop : frameOpIn s = some op) (hp : s.phase = .build) :
    phaseRun 8 s =
      .next (finish (transact op.cmd (op.layout (reqAddr s)).length op.value
        (sealTx (op.layout (reqAddr s)).length (buildTx (op.layout (reqAddr s)) s)))) := by
  rw [phaseRun_frame hop (by simp [hp, inFrame]) (frameEdge_build hp),
    phaseRun_frame (s := buildTx _ s) hop rfl rfl]
  exact phaseRun_tx (s := sealTx _ (buildTx _ s)) hop rfl

end

/-! ### The course of a request -/

theorem phaseRun_accept_localEffect {r : Request} {effect : State → State}
    (h : courseOfRequest r = some (.localEffect effect)) (s : State) :
    phaseRun 9 (accept r s) = .next (runLocalOp r effect s) := by
  obtain ⟨i, hi⟩ := courseOfRequest_some h
  have hedge : phaseEdge (accept r s) = .next (effect (accept r s)) := by simp [phaseEdge, checkEdge, h]
  rw [phaseRun_succ hedge, phaseRun_done (effectEnds_phase (localEffect_ends hi _))]
  rfl

theorem phaseRun_accept_frame {r : Request} {op : FrameOp} (h : courseOfRequest r = some (.frame op)) (s : State) :
    phaseRun 9 (accept r s) = .next (runFrameOp r op s) := by
  have hedge : phaseEdge (accept r s) = .next (checkFrameOp op.paramsOk (accept r s)) := by
    simp [phaseEdge, checkEdge, h]
  have hop : frameOpIn (accept r s) = some op := by simp [frameOpIn, h]
  have hop' := (checkFrameOp_setting op.paramsOk _).frameOpIn hop
  rw [phaseRun_succ hedge]
  rcases checkFrameOp_phase op.paramsOk (accept r s) with hp | hp
  · simp [phaseRun_done hp, runFrameOp, hp]
  · simp [phaseRun_build hop' hp, runFrameOp, hp]

/-! ### The request's part in an operation -/

/-- s with another request in REQ, the sampled configuration being the same (R113). -/
def withRequest (r : Request) (s : State) : State := { s with req := s.req.map fun q => { q with request := r } }

section
variable (r : Request)

theorem reqStrict_withRequest (s : State) : reqStrict (withRequest r s) = reqStrict s := by
  cases h : s.req <;> simp [reqStrict, withRequest, h]

theorem reqSwap_withRequest (s : State) : reqSwap (withRequest r s) = reqSwap s := by
  cases h : s.req <;> simp [reqSwap, withRequest, h]

theorem reqAddr_withRequest (s : State) : reqAddr (withRequest r s) = reqAddr s := by
  cases h : s.req <;> simp [reqAddr, withRequest, h]

theorem isCsrRead_withRequest {s : State} (h : s.req ≠ none) : isCsrRead (withRequest r s) = (r.opc == 0x04#8) := by
  cases hq : s.req
  · exact absurd hq h
  · simp [isCsrRead, withRequest, hq]

theorem csrReadOp_withRequest (idx : Half) (s : State) :
    csrReadOp idx (withRequest r s) = withRequest r (csrReadOp idx s) := by
  have hv : csrValue (withRequest r s) idx = csrValue s idx := rfl
  rw [csrReadOp, csrReadOp, hv]
  cases csrValue s idx <;> rfl

/-- The effects done in CHECK read nothing of the request record in REQ: their operands came with the operation. -/
theorem localEffect_withRequest {i : Instr} {effect : State → State} (h : courseOf i = some (.localEffect effect))
    (s : State) : effect (withRequest r s) = withRequest r (effect s) := by
  cases i <;> cases h
  case csrRead idx => exact csrReadOp_withRequest r idx s
  case closePort => simp only [closePortOp, apply_ite (withRequest r)]; rfl
  case flushPort => simp only [flushPortOp, apply_ite (withRequest r)]; rfl
  case openPort => simp only [openPortOp, apply_ite (withRequest r)]; rfl
  case csrWrite => simp only [csrWriteOp, apply_ite (withRequest r)]; rfl
  case crcCompute => simp only [crcComputeOp, apply_ite (withRequest r), reqSwap_withRequest]; rfl
  case crcInsert => simp only [crcInsertOp, apply_ite (withRequest r)]; rfl
  case crcExtract => simp only [crcExtractOp, apply_ite (withRequest r)]; rfl
  case crcSet => simp only [crcSetOp, apply_ite (withRequest r), reqSwap_withRequest]; rfl
  case crcVerify => simp only [crcVerifyOp, apply_ite (withRequest r), reqSwap_withRequest]; rfl
  case buildReadStatus => simp only [buildReadStatusOp, reqSwap_withRequest, reqAddr_withRequest]; rfl
  case buildWriteSingle => simp only [buildWriteSingleOp, reqSwap_withRequest, reqAddr_withRequest]; rfl
  case buildWriteMultiple =>
    simp only [buildWriteMultipleOp, apply_ite (withRequest r), reqSwap_withRequest, reqAddr_withRequest]; rfl
  case decodeStatusBank => simp only [decodeStatusBankOp, apply_ite (withRequest r)]; rfl

theorem checkFrameOp_withRequest (p : Bool) (s : State) :
    checkFrameOp p (withRequest r s) = withRequest r (checkFrameOp p s) := by
  simp only [checkFrameOp, apply_ite (withRequest r), reqAddr_withRequest]; rfl

theorem sealTx_withRequest (n : Nat) (s : State) : sealTx n (withRequest r s) = withRequest r (sealTx n s) := by
  simp only [sealTx, reqSwap_withRequest]; rfl

theorem transmit_withRequest (n : Nat) (s : State) : transmit n (withRequest r s) = withRequest r (transmit n s) := by
  simp only [transmit, apply_ite (withRequest r)]; rfl

theorem receive_withRequest (cmd : WireCmd) (s : State) :
    receive cmd (withRequest r s) = withRequest r (receive cmd s) := by
  cases h : feedRead (respLen cmd) s.feed with
  | ok a => rw [receive_ok h, receive_ok (s := withRequest r s) h]; rfl
  | fail why => rw [receive_fail h, receive_fail (s := withRequest r s) h]; rfl

theorem verifyAck_withRequest (cmd : WireCmd) (s : State) :
    verifyAck cmd (withRequest r s) = withRequest r (verifyAck cmd s) := by
  simp only [verifyAck, apply_ite (withRequest r), reqAddr_withRequest]; rfl

theorem verifyResponse_withRequest (cmd : WireCmd) (s : State) :
    verifyResponse cmd (withRequest r s) = withRequest r (verifyResponse cmd s) := by
  have hw : verifyAck cmd (setWarn (withRequest r s)) = withRequest r (verifyAck cmd (setWarn s)) :=
    verifyAck_withRequest r cmd (setWarn s)
  simp only [verifyResponse, apply_ite (withRequest r), reqSwap_withRequest, reqStrict_withRequest,
    verifyAck_withRequest, hw]
  rfl

/-- The phases of a frame read nothing of the request record, where the operation's value does not. -/
theorem transact_withRequest {value : State → Word} (hv : ∀ s, value (withRequest r s) = value s) (cmd : WireCmd)
    (n : Nat) (s : State) : transact cmd n value (withRequest r s) = withRequest r (transact cmd n value s) := by
  have hd : ∀ s, decodeUpdate value (withRequest r s) = withRequest r (decodeUpdate value s) := fun s => by
    have hval := hv (updateState (response .readRegisters s) s)
    simp only [decodeUpdate, ← hval]
    rfl
  have ht : ∀ s, turnaround (withRequest r s) = withRequest r (turnaround s) := fun s => rfl
  have hp : ∀ s, (withRequest r s).phase = s.phase := fun s => rfl
  simp only [transact, transmit_withRequest, ht, receive_withRequest, verifyResponse_withRequest, hd, hp,
    apply_ite (withRequest r)]

/-- The return reads of the request record whether its opcode is CSR_READ's, and empties REQ (R118). -/
theorem finish_withRequest {s : State} (hs : s.req ≠ none) (h : (r.opc == 0x04#8) = isCsrRead s) :
    finish (withRequest r s) = finish s := by
  have hc : isCsrRead (withRequest r s) = isCsrRead s := (isCsrRead_withRequest r hs).trans h
  simp only [finish, hc]
  rfl

end

/-- Two requests with one opcode end alike in a local operation. -/
theorem runLocalOp_congr {r q : Request} (h : r.opc = q.opc) {i : Instr} {effect : State → State}
    (hc : courseOf i = some (.localEffect effect)) (s : State) : runLocalOp r effect s = runLocalOp q effect s := by
  have ha : accept r s = withRequest r (accept q s) := rfl
  have hreq := effectEnds_req (localEffect_ends hc (accept q s))
  rw [runLocalOp, ha, localEffect_withRequest r hc, finish_withRequest, runLocalOp]
  · simp [hreq]
  · rw [isCsrRead_congr hreq, h]; rfl

/-- Two requests, neither of CSR_READ, end alike in a frame operation. -/
theorem runFrameOp_congr {r q : Request} (hr : r.opc ≠ 0x04#8) (hq : q.opc ≠ 0x04#8) {op : FrameOp}
    (hv : ∀ s, op.value (withRequest r s) = op.value s) (s : State) : runFrameOp r op s = runFrameOp q op s := by
  have ha : accept r s = withRequest r (accept q s) := rfl
  have hb : ∀ f s, buildTx f (withRequest r s) = withRequest r (buildTx f s) := fun f s => rfl
  have hp : ∀ s, (withRequest r s).phase = s.phase := fun s => rfl
  have hend : ∀ {u : State}, SameSetting (accept q s) u → finish (withRequest r u) = finish u := fun hu => by
    refine finish_withRequest r (by simp [hu.req]) ?_
    rw [isCsrRead_congr hu.req, isCsrRead_accept, beq_eq_false_iff_ne.mpr hr]
    exact (beq_eq_false_iff_ne.mpr hq).symm
  have hcheck := checkFrameOp_setting op.paramsOk (accept q s)
  simp only [runFrameOp, ha, checkFrameOp_withRequest, hp, reqAddr_withRequest, hb, sealTx_withRequest,
    transact_withRequest r hv]
  generalize op.layout (reqAddr (checkFrameOp op.paramsOk (accept q s))) = layout
  have hsealed := (hcheck.trans (buildTx_setting layout _)).trans (sealTx_setting layout.length _)
  have hsent := hsealed.trans (frameEnds_setting (transact_ends op.cmd layout.length op.value _))
  rw [hend hcheck, hend hsent]

/-! ### The statements -/

/-- A request that decodes to an operation has its course, and its opcode (R82). -/
theorem courseOfRequest_of_decode {r : Request} {i : Instr} (h : decode (.host r) = .ok i) :
    courseOfRequest r = courseOf i ∧ (requestOf i).opc = r.opc ∧ courseOf i ≠ none := by
  have hd : decodeRequest r = .ok i := h
  obtain ⟨q, hq, hopc⟩ := decodeRequest_ok hd
  refine ⟨by simp [courseOfRequest, hd], by simp [requestOf, hq, hopc], ?_⟩
  cases i <;> cases hq <;> simp [courseOf]

theorem frame_value_withRequest {i : Instr} {op : FrameOp} (h : courseOf i = some (.frame op)) (r : Request)
    (s : State) : op.value (withRequest r s) = op.value s := by
  cases i <;> cases h <;> rfl

theorem frame_opc {i : Instr} {op : FrameOp} (h : courseOf i = some (.frame op)) : (requestOf i).opc ≠ 0x04#8 := by
  intro hopc
  obtain ⟨idx, rfl⟩ := (requestOf_opc_csrRead i).mp hopc
  cases h

/-- Settles O7: the edges run the course of the request; the request that `exec` accepts for it has the same opcode. -/
theorem phasesComposeToTheOperation : Obligations.PhasesComposeToTheOperation := by
  intro s r i h
  obtain ⟨hr, hopc, hsome⟩ := courseOfRequest_of_decode h
  cases hc : courseOf i with
  | none => exact absurd hc hsome
  | some c =>
    cases c with
    | localEffect effect =>
      rw [phaseRun_accept_localEffect (hr.trans hc), exec_localEffect hc, runLocalOp_congr hopc hc]
    | frame op =>
      have hne := frame_opc hc
      rw [phaseRun_accept_frame (hr.trans hc), exec_frame hc,
        runFrameOp_congr (hopc ▸ hne) hne (fun s => frame_value_withRequest hc r s)]

/-- Two operations of one course, neither of them CSR_READ, have one meaning. -/
theorem exec_eq_of_course {i j : Instr} {op : FrameOp} (hi : courseOf i = some (.frame op))
    (hj : courseOf j = some (.frame op)) (s : State) : exec i s = exec j s := by
  rw [exec_frame hi, exec_frame hj,
    runFrameOp_congr (frame_opc hi) (frame_opc hj) (fun s => frame_value_withRequest hi _ s)]

/-- Settles O28: each set operation has the course of the write of its register, its operand check being passed. -/
theorem setOperationsAreWriteRegister : Obligations.SetOperationsAreWriteRegister := by
  intro s v
  refine ⟨exec_eq_of_course rfl rfl s, exec_eq_of_course rfl rfl s, exec_eq_of_course rfl rfl s,
    fun h => ?_, fun h => ?_⟩
  · have hc : courseOf (.setMode v) = courseOf (.writeRegister 0x0110#16 v) := by
      simp only [courseOf, setModeOp, decide_eq_true h]
      rfl
    exact exec_eq_of_course hc rfl s
  · have hc : courseOf (.setLoadSwitch v) = courseOf (.writeRegister 0x010E#16 v) := by
      simp only [courseOf, setLoadSwitchOp, decide_eq_true h]
      rfl
    exact exec_eq_of_course hc rfl s

end Sys2Proof.Machine
end

section
/-! PROOF of O53, O54 and O55: the machine's invariant. It has a part that speaks of the data alone (`Sound`), which
every shared operation keeps, and a part that ties the phase to REQ, the timer and TXBUF, which each edge establishes
anew. -/

namespace Sys2Proof.Machine

/-! ### The frames of an admitted operation -/

/-- A layout that fits TXBUF and, sealed, is a well-formed wire command of the length that its header tells. -/
structure Sendable (f : Bytes) : Prop where
  header : 6 ≤ f.length
  fits : f.length ≤ maxFrame
  sealed : ∀ sw, ∃ i, decodeFrame (sealFrame f sw) = .ok i ∧ i.wf = true ∧
    frameLength ((sealFrame f sw).take 6) = some f.length

theorem sendable_readStatus {a : Byte} (ha : a ≠ 0#8) : Sendable (layoutReadStatus a) :=
  have hl : (layoutReadStatus a).length = 8 := rfl
  ⟨by omega, by rw [hl]; decide, fun sw => decodeFrame_readStatus a sw ha⟩

theorem sendable_writeSingle {a : Byte} (ha : a ≠ 0#8) (reg : Half) (v : Word) :
    Sendable (layoutWriteSingle a reg v) :=
  have hl : (layoutWriteSingle a reg v).length = 13 := rfl
  ⟨by omega, by rw [hl]; decide, fun sw => decodeFrame_writeSingle a reg v sw ha⟩

theorem sendable_writeMultiple {a : Byte} (ha : a ≠ 0#8) (start : Half) {c : Half} {vals : List Word}
    (hc : countOk c vals = true) : Sendable (layoutWriteMultiple a start c vals) := by
  obtain ⟨h1, h2, h3⟩ := countOk_iff.mp hc
  have hl := layoutWriteMultiple_length a start c vals
  have hmax : maxFrame = 261 := rfl
  exact ⟨by omega, by omega, fun sw => decodeFrame_writeMultiple a start c vals sw ha hc⟩

theorem frame_sendable {i : Instr} {op : FrameOp} (h : courseOf i = some (.frame op)) (hp : op.paramsOk = true)
    {a : Byte} (ha : a ≠ 0#8) : Sendable (op.layout a) := by
  cases i <;> cases h
  case writeRegisters => exact sendable_writeMultiple ha _ hp
  case getStatus | getCurrent | getVoltage | getMode | getSwitch => exact sendable_readStatus ha
  all_goals exact sendable_writeSingle ha _ _

theorem frameOpIn_course {s : State} {op : FrameOp} (h : frameOpIn s = some op) :
    ∃ i, courseOf i = some (.frame op) := by
  unfold frameOpIn at h
  split at h
  · cases h
  · split at h
    · next hc =>
      cases h
      exact courseOfRequest_some hc
    · cases h

/-! ### The part of the invariant about data -/

/-- The invariant but for what ties the phase to REQ, the timer and TXBUF. -/
structure Sound (s : State) : Prop where
  params : s.params.wf = true
  txbuf : s.txbuf.wf maxFrame = true
  rxbuf : s.rxbuf.wf statusLen = true
  res : legalCode s.res.err s.res.reason = true
  last : legalCode s.lastResult.err s.lastResult.reason = true
  returned : ∀ r ∈ s.returned, legalCode r.err r.reason = true
  mode : s.devMode &&& s.params.modeMask = s.devMode
  unread : s.valid = false → s.devSwitch = 0#1 ∧ s.devMode = 0#3 ∧ s.devVoltage = 0#24 ∧ s.devCurrent = 0#24
  history : ∀ e ∈ s.history, eventOk e

theorem Inv.sound {s : State} (h : Inv s) : Sound s := { h with }

theorem sound_powerOn {p : Params} (hp : p.wf = true) : Sound (State.powerOn p) where
  params := hp
  txbuf := wf_nil _
  rxbuf := wf_nil _
  res := rfl
  last := rfl
  returned := by simp [State.powerOn]
  mode := BitVec.zero_and
  unread := fun _ => ⟨rfl, rfl, rfl, rfl⟩
  history := by simp [State.powerOn]

section
variable {s : State} (h : Sound s)
include h

theorem Sound.reset : Sound (blockReset s) :=
  { sound_powerOn h.params with returned := h.returned, history := h.history }

theorem Sound.accept (r : Request) : Sound (accept r s) := { h with res := rfl }

/-- Every error has a legal pair of codes (R136). -/
theorem Sound.raise (e : OpError) : Sound (raise e s) := { h with res := by cases e <;> rfl }

theorem Sound.succeed (v : Word) (d : Bytes) : Sound (succeed v d s) := { h with res := rfl }

theorem Sound.finish : Sound (finish s) where
  params := h.params
  txbuf := h.txbuf
  rxbuf := h.rxbuf
  res := h.res
  last := by
    rw [finish_lastResult]
    split
    · exact h.last
    · exact h.res
  returned := by
    simpa only [finish_returned, List.forall_mem_append, List.forall_mem_singleton] using ⟨h.returned, h.res⟩
  mode := h.mode
  unread := h.unread
  history := h.history

theorem Sound.record {e : Event} (he : eventOk e) : Sound (record e s) :=
  { h with
    history := by
      simpa only [record_history, List.forall_mem_append, List.forall_mem_singleton] using ⟨h.history, he⟩ }

theorem Sound.setFeed (f : Feed) : Sound (setFeed f s) := { h with }

theorem Sound.setPhase (p : Phase) : Sound (setPhase p s) := { h with }

theorem Sound.setWarn : Sound (setWarn s) := { h with }

theorem Sound.setLink (l : Link) : Sound (setLink l s) := { h with }

theorem Sound.setCtrl (b c : Bool) : Sound (setCtrl b c s) := { h with }

theorem Sound.setAddr (a : Byte) : Sound (setAddr a s) := { h with }

theorem Sound.startTimer : Sound (startTimer s) := { h with }

theorem Sound.turnaround : Sound (turnaround s) := { h.record (e := .wait s.params.turnaround) trivial with }

theorem Sound.buildTx {f : Bytes} (hf : f.length ≤ maxFrame) : Sound (buildTx f s) :=
  { h with txbuf := buildTx_wf h.txbuf f hf }

theorem Sound.sealTx {n : Nat} (hn : n ≤ maxFrame) : Sound (sealTx n s) :=
  { h with txbuf := sealTx_wf h.txbuf n hn }

theorem Sound.loadFrame {f : Bytes} (hf : f.length ≤ maxFrame) : Sound (loadFrame f s) :=
  { h with txbuf := loadFrame_wf h.txbuf f hf, res := rfl }

theorem Sound.storeRx {r : Bytes} (hr : r.length ≤ statusLen) : Sound (storeRx r s) :=
  { h with rxbuf := storeRx_wf h.rxbuf r hr }

/-- A decoded mode holds no bit outside the mask (R105, R106). -/
theorem Sound.updateState (r : Bytes) : Sound (updateState r s) :=
  { h with
    mode := by simp [decodeStatus, BitVec.and_assoc]
    unread := by simp }

theorem Sound.decodeUpdate (value : State → Word) : Sound (decodeUpdate value s) := (h.updateState _).succeed _ _

theorem Sound.effect {i : Instr} {t : State} (he : EffectEnds s i t) : Sound t := by
  cases he with
  | raised i e => exact h.raise e
  | succeeded i v d => exact h.succeed v d
  | warned i => exact h.setWarn.succeed _ _
  | ctrl => exact (h.setCtrl _ _).succeed _ _
  | address => exact (h.setAddr _).succeed _ _
  | opened => exact (((h.setFeed _).record (e := .openPort _ _ _ _) rfl).setLink _).succeed _ _
  | openFailed => exact ((h.setFeed _).record (e := .openPort _ _ _ _) rfl).raise _
  | closed => exact ((h.record (e := .close) trivial).setLink _).succeed _ _
  | flushed => exact (h.record (e := .flush) trivial).succeed _ _

theorem Sound.transmit {n : Nat} (hw : ∀ ok, eventOk (.write (memReadBytes s.txbuf 0 n) ok)) :
    Sound (transmit n s) := by
  cases hok : feedOk s.feed
  · exact transmit_false hok ▸ ((h.setFeed _).record (hw false)).raise _
  · exact transmit_true hok ▸ ((h.setFeed _).record (hw true)).startTimer

theorem Sound.receive (cmd : WireCmd) : Sound (receive cmd s) := by
  have he : eventOk (.read (respLen cmd) (feedRead (respLen cmd) s.feed)) :=
    ⟨respLen_mem cmd, fun r hr => feedRead_ok hr⟩
  cases ha : feedRead (respLen cmd) s.feed with
  | ok r =>
    have hlen : r.length ≤ statusLen := feedRead_ok ha ▸ respLen_le cmd
    exact receive_ok ha ▸ ((h.setFeed _).record (ha ▸ he)).storeRx hlen
  | fail why => exact receive_fail ha ▸ ((h.setFeed _).record (ha ▸ he)).raise _

theorem Sound.verifyAck (cmd : WireCmd) : Sound (verifyAck cmd s) := by
  rcases verifyAck_cases cmd s with ⟨-, e⟩ | ⟨-, -, e⟩ | ⟨-, -, e⟩
  · exact e ▸ h.setPhase _
  · exact e ▸ h.raise _
  · exact e ▸ h.succeed _ _

theorem Sound.verifyResponse (cmd : WireCmd) : Sound (verifyResponse cmd s) := by
  rcases verifyResponse_cases cmd s with ⟨-, e⟩ | ⟨-, -, e⟩ | ⟨-, -, e⟩
  · exact e ▸ h.verifyAck cmd
  · exact e ▸ h.raise _
  · exact e ▸ h.setWarn.verifyAck cmd

theorem Sound.transact (cmd : WireCmd) {n : Nat} (value : State → Word)
    (hw : ∀ ok, eventOk (.write (memReadBytes s.txbuf 0 n) ok)) : Sound (transact cmd n value s) := by
  have htx := h.transmit hw
  have hrx := htx.turnaround.receive cmd
  rcases transact_cases cmd n value s with ⟨-, e⟩ | ⟨-, -, e⟩ | ⟨-, -, -, e⟩ | ⟨-, -, -, e⟩
  · exact e ▸ htx
  · exact e ▸ hrx
  · exact e ▸ hrx.verifyResponse cmd
  · exact e ▸ (hrx.verifyResponse cmd).decodeUpdate value

end

/-! ### The part about the phase -/

/-- In IDLE, CHECK and DONE only REQ and the timer are tied to the phase. -/
theorem Sound.inv_of_not_inFrame {s : State} (h : Sound s) (hf : inFrame s.phase = false)
    (hreq : s.req = none ↔ s.phase = .idle) (ht : s.timer = .stopped) : Inv s :=
  { h with
    req := hreq
    timer := by
      rw [ht]
      exact ⟨nofun, fun hp => by simp [hp, inFrame] at hf⟩
    busy := by simp [hf]
    sealing := fun hp => by simp [hp, inFrame] at hf
    sending := fun hp => by simp [hp, inFrame] at hf }

theorem Sound.inv_of_done {s : State} (h : Sound s) (hp : s.phase = .done) (hreq : s.req ≠ none)
    (ht : s.timer = .stopped) : Inv s :=
  h.inv_of_not_inFrame (by simp [hp, inFrame]) (by simp [hp, hreq]) ht

theorem inv_finish {s : State} (h : Sound s) (ht : s.timer = .stopped) : Inv (finish s) :=
  h.finish.inv_of_not_inFrame rfl (by simp) ht

/-- What CHECK has established of the operation in REQ while its frame is under way (R114). -/
structure Admitted (op : FrameOp) (s : State) : Prop where
  inReq : frameOpIn s = some op
  paramsOk : op.paramsOk = true
  addr : reqAddr s ≠ 0#8
  link : s.link = .opened

theorem Inv.admitted {s : State} {op : FrameOp} (h : Inv s) (hf : inFrame s.phase = true)
    (hop : frameOpIn s = some op) : Admitted op s := by
  obtain ⟨op', hop', hparams, haddr, hlink⟩ := h.busy hf
  obtain rfl : op' = op := Option.some.inj (hop'.symm.trans hop)
  exact ⟨hop, hparams, haddr, hlink⟩

theorem SameSetting.admitted {s t : State} {op : FrameOp} (hs : SameSetting s t) (h : Admitted op s) :
    Admitted op t :=
  ⟨hs.frameOpIn h.inReq, h.paramsOk, reqAddr_congr hs.req hs.addr ▸ h.addr, hs.link.trans h.link⟩

theorem Admitted.sendable {s : State} {op : FrameOp} (h : Admitted op s) : Sendable (op.layout (reqAddr s)) := by
  obtain ⟨i, hi⟩ := frameOpIn_course h.inReq
  exact frame_sendable hi h.paramsOk h.addr

theorem req_ne_none_of_frameOpIn {s : State} {op : FrameOp} (h : frameOpIn s = some op) : s.req ≠ none := by
  intro hn
  simp [frameOpIn, hn] at h

/-- In a phase of a frame the invariant asks for an admitted operation, the timer and what TXBUF holds. -/
theorem Sound.inv_of_admitted {s : State} {op : FrameOp} (h : Sound s) (ha : Admitted op s)
    (hf : inFrame s.phase = true) (ht : s.timer = .running ↔ s.phase = .wait)
    (hseal : s.phase = .seal → memReadBytes s.txbuf 0 (op.layout (reqAddr s)).length = op.layout (reqAddr s))
    (hsend : s.phase = .tx →
      memReadBytes s.txbuf 0 (op.layout (reqAddr s)).length = sealFrame (op.layout (reqAddr s)) (reqSwap s)) :
    Inv s := by
  have only : ∀ {op'}, frameOpIn s = some op' → op' = op := fun h' => Option.some.inj (h'.symm.trans ha.inReq)
  exact { h with
    req := by
      have hreq := req_ne_none_of_frameOpIn ha.inReq
      constructor
      · exact fun hn => absurd hn hreq
      · intro hp
        simp [hp, inFrame] at hf
    timer := ht
    busy := fun _ => ⟨op, ha.inReq, ha.paramsOk, ha.addr, ha.link⟩
    sealing := fun hp op' h' => only h' ▸ hseal hp
    sending := fun hp op' h' => only h' ▸ hsend hp }

theorem Inv.stopped {s : State} (h : Inv s) (hp : s.phase ≠ .wait) : s.timer = .stopped := by
  cases ht : s.timer
  · rfl
  · exact absurd (h.timer.mp ht) hp

/-! ### One phase edge keeps the invariant -/

theorem inv_raise {s : State} (h : Sound s) (hreq : s.req ≠ none) (ht : s.timer = .stopped) (e : OpError) :
    Inv (raise e s) := (h.raise e).inv_of_done rfl hreq ht

theorem inv_effect {i : Instr} {s t : State} (h : Inv s) (hp : s.phase = .check) (he : EffectEnds s i t) : Inv t := by
  have hreq : s.req ≠ none := fun hn => by simp [h.req.mp hn] at hp
  have ht : t.timer = .stopped := by
    rw [← h.stopped (by simp [hp])]
    cases he <;> rfl
  exact (h.sound.effect he).inv_of_done (effectEnds_phase he) (effectEnds_req he ▸ hreq) ht

theorem inv_checkFrameOp {s : State} {op : FrameOp} (h : Inv s) (hp : s.phase = .check)
    (hop : frameOpIn s = some op) : Inv (checkFrameOp op.paramsOk s) := by
  have ht := h.stopped (by simp [hp])
  have hreq := req_ne_none_of_frameOpIn hop
  rcases checkFrameOp_cases op.paramsOk s with ⟨-, e⟩ | ⟨-, -, e⟩ | ⟨-, -, -, e⟩ | ⟨haddr, hlink, hparams, e⟩
  · exact e ▸ inv_raise h.sound hreq ht _
  · exact e ▸ inv_raise h.sound hreq ht _
  · exact e ▸ inv_raise h.sound hreq ht _
  · rw [e]
    exact (h.sound.setPhase .build).inv_of_admitted (op := op) ⟨hop, hparams, haddr, hlink⟩ rfl (by simp [ht])
      (by simp) (by simp)

theorem receive_timer (cmd : WireCmd) (s : State) : (receive cmd s).timer = s.timer := by
  cases hr : feedRead (respLen cmd) s.feed
  · simp [receive_ok hr]
  · simp [receive_fail hr]

theorem verifyAck_timer (cmd : WireCmd) (s : State) : (verifyAck cmd s).timer = s.timer := by
  rcases verifyAck_cases cmd s with ⟨-, e⟩ | ⟨-, -, e⟩ | ⟨-, -, e⟩ <;> simp [e]

theorem verifyResponse_timer (cmd : WireCmd) (s : State) : (verifyResponse cmd s).timer = s.timer := by
  rcases verifyResponse_cases cmd s with ⟨-, e⟩ | ⟨-, -, e⟩ | ⟨-, -, e⟩ <;> simp [e, verifyAck_timer]

section
variable {s : State} {op : FrameOp} (h : Inv s) (ha : Admitted op s)
include h ha

/-- BUILD: TXBUF holds the layout (R104). -/
theorem inv_buildTx (hp : s.phase = .build) : Inv (buildTx (op.layout (reqAddr s)) s) := by
  have hfits := ha.sendable.fits
  exact (h.sound.buildTx hfits).inv_of_admitted ((buildTx_setting _ s).admitted ha) rfl
    (by simp [h.stopped (by simp [hp])])
    (fun _ => memReadBytes_memWriteBytes h.txbuf 0 _ (by omega)) (by simp)

/-- SEAL: the layout in TXBUF becomes the sealed frame (R99, R104). -/
theorem inv_sealTx (hp : s.phase = .seal) : Inv (sealTx (op.layout (reqAddr s)).length s) := by
  have hfits := ha.sendable.fits
  have hlen := sealFrame_length (op.layout (reqAddr s)) (reqSwap s)
  have hread := memReadBytes_memWriteBytes h.txbuf 0 (sealFrame (op.layout (reqAddr s)) (reqSwap s)) (by omega)
  refine (h.sound.sealTx hfits).inv_of_admitted ((sealTx_setting _ s).admitted ha) rfl
    (by simp [h.stopped (by simp [hp])]) (by simp) fun _ => ?_
  rw [hlen] at hread
  rw [reqAddr_sealTx, reqSwap_sealTx, sealTx_txbuf, h.sealing hp op ha.inReq]
  exact hread

/-- In TX the frame to be written is a well-formed wire command (R28, R70, R77). -/
theorem eventOk_sending (hp : s.phase = .tx) (ok : Bool) :
    eventOk (.write (memReadBytes s.txbuf 0 (op.layout (reqAddr s)).length) ok) := by
  rw [h.sending hp op ha.inReq]
  obtain ⟨i, hd, hw, -⟩ := ha.sendable.sealed (reqSwap s)
  exact ⟨i, hd, hw⟩

theorem inv_transmit (hp : s.phase = .tx) : Inv (transmit (op.layout (reqAddr s)).length s) := by
  have hs := h.sound.transmit (eventOk_sending h ha hp)
  have ha' := (transmit_setting (op.layout (reqAddr s)).length s).admitted ha
  cases hok : feedOk s.feed
  · have ht : (transmit (op.layout (reqAddr s)).length s).timer = .stopped := by
      simp [transmit_false hok, h.stopped, hp]
    exact hs.inv_of_done (by simp [transmit_false hok]) (req_ne_none_of_frameOpIn ha'.inReq) ht
  · have hwait : (transmit (op.layout (reqAddr s)).length s).phase = .wait := by simp [transmit_true hok]
    exact hs.inv_of_admitted ha' (by simp [hwait, inFrame]) (by simp [transmit_true hok]) (by simp [hwait])
      (by simp [hwait])

theorem inv_turnaround : Inv (turnaround s) :=
  h.sound.turnaround.inv_of_admitted ((turnaround_setting s).admitted ha) rfl (by simp) (by simp) (by simp)

theorem inv_receive (hp : s.phase = .rx) : Inv (receive op.cmd s) := by
  have hs := h.sound.receive op.cmd
  have ha' := (receive_setting op.cmd s).admitted ha
  have ht : (receive op.cmd s).timer = .stopped := (receive_timer op.cmd s).trans (h.stopped (by simp [hp]))
  rcases receive_phase op.cmd s with hd | hv
  · exact hs.inv_of_done hd (req_ne_none_of_frameOpIn ha'.inReq) ht
  · exact hs.inv_of_admitted ha' (by simp [hv, inFrame]) (by simp [hv, ht]) (by simp [hv]) (by simp [hv])

theorem inv_verifyResponse (hp : s.phase = .verify) : Inv (verifyResponse op.cmd s) := by
  have hs := h.sound.verifyResponse op.cmd
  have ha' := (verifyResponse_setting op.cmd s).admitted ha
  have ht : (verifyResponse op.cmd s).timer = .stopped :=
    (verifyResponse_timer op.cmd s).trans (h.stopped (by simp [hp]))
  rcases verifyResponse_phase op.cmd s with hd | hv
  · exact hs.inv_of_done hd (req_ne_none_of_frameOpIn ha'.inReq) ht
  · exact hs.inv_of_admitted ha' (by simp [hv, inFrame]) (by simp [hv, ht]) (by simp [hv]) (by simp [hv])

theorem inv_decodeUpdate (hp : s.phase = .decode) : Inv (decodeUpdate op.value s) :=
  (h.sound.decodeUpdate op.value).inv_of_done rfl (req_ne_none_of_frameOpIn ha.inReq) (h.stopped (by simp [hp]))

theorem inv_frameEdge : Inv (frameEdge op s) := by
  cases hp : s.phase
  case build => exact frameEdge_build hp ▸ inv_buildTx h ha hp
  case tx => exact frameEdge_tx hp ▸ inv_transmit h ha hp
  case wait => exact frameEdge_wait hp ▸ inv_turnaround h ha
  case rx => exact frameEdge_rx hp ▸ inv_receive h ha hp
  case verify => exact frameEdge_verify hp ▸ inv_verifyResponse h ha hp
  case decode => exact frameEdge_decode hp ▸ inv_decodeUpdate h ha hp
  case idle | check | done => simpa only [frameEdge, hp] using h
  -- SEAL
  · exact frameEdge_seal hp ▸ inv_sealTx h ha hp

end

theorem inv_phaseEdge {s t : State} (h : Inv s) (he : phaseEdge s = .next t) : Inv t := by
  rcases phaseEdge_cases he with ⟨-, rfl⟩ | ⟨hp, i, he⟩ | ⟨hp, op, hop, rfl⟩ | ⟨hf, op, hop, rfl⟩ | ⟨hp, rfl⟩
  · exact h
  · exact inv_effect h hp he
  · exact inv_checkFrameOp h hp hop
  · exact inv_frameEdge h (h.admitted hf hop)
  · exact inv_finish h.sound (h.stopped (by simp [hp]))

theorem inv_phaseRun {k : Nat} {s t : State} (h : Inv s) (hr : phaseRun k s = .next t) : Inv t := by
  induction k generalizing s with
  | zero => cases hr; exact h
  | succ k ih =>
    cases he : phaseEdge s with
    | next u => exact ih (inv_phaseEdge h he) (by rwa [phaseRun_succ he] at hr)
    | fault f => simp [phaseRun, he] at hr
    | refused f => simp [phaseRun, he] at hr

/-! ### A request and a frame run as one transition -/

theorem inv_accept {s : State} (h : Inv s) (hp : s.phase = .idle) (r : Request) : Inv (accept r s) :=
  (h.sound.accept r).inv_of_not_inFrame rfl (by simp) (h.stopped (by simp [hp]))

/-- A request run as one transition ends where its phases end (R111). -/
theorem inv_runRequest {s t : State} {r : Request} (h : Inv s) (hp : s.phase = .idle)
    (hr : runRequest r s = .next t) : Inv t := by
  have hacc := inv_accept h hp r
  cases hd : decode (.host r) with
  | ok i =>
    rw [runRequest_of_decode hd, ← phasesComposeToTheOperation s r i hd] at hr
    exact inv_phaseRun hacc hr
  | error e =>
    simp only [runRequest, hd] at hr
    cases hr
    exact inv_finish (hacc.sound.raise .badOpcode) (hacc.stopped (by simp))

theorem take_memReadBytes (m : Memory) (a : Nat) {k n : Nat} (h : k ≤ n) :
    (memReadBytes m a n).take k = memReadBytes m a k := by
  rw [memReadBytes, ← List.map_take, List.take_range, min_eq_left h, memReadBytes]

/-- In TX the frame in TXBUF is a well-formed wire command that fits it (R70, R77, R78). -/
theorem Inv.frame {s : State} (h : Inv s) (hp : s.phase = .tx) :
    ∃ f i, fetchFrame s = some f ∧ decode (.wire f) = .ok i ∧ i.wf = true ∧ f.length ≤ maxFrame := by
  obtain ⟨op, hop, -⟩ := h.busy (by simp [hp, inFrame])
  have ha := h.admitted (by simp [hp, inFrame]) hop
  obtain ⟨i, hd, hw, hlen⟩ := ha.sendable.sealed (reqSwap s)
  have hread := h.sending hp op hop
  refine ⟨_, i, ?_, hd, hw, by rw [sealFrame_length]; exact ha.sendable.fits⟩
  rw [fetchFrame, ← take_memReadBytes s.txbuf 0 ha.sendable.header, hread, hlen]
  exact congrArg some hread

theorem courseOf_of_wire {i : Instr} {f : Bytes} (h : encode i = .wire f) : courseOf i = none := by
  cases i
  case wireReadStatus | wireWriteSingle | wireWriteMultiple => rfl
  all_goals cases h

theorem inv_runFrame {s t : State} (h : Inv s) (hp : s.phase = .tx) (hr : runFrame s = .next t) : Inv t := by
  obtain ⟨f, i, hf, hd, hw, hfits⟩ := h.frame hp
  rw [runFrame_of_decode hf hd] at hr
  have henc : encode i = .wire f := frameHasOneReading f i hd
  have hfi : frameOf i = f := by simp [frameOf, henc]
  obtain ⟨cmd, hc⟩ := carries_of_exec (courseOf_of_wire henc) hr
  rw [exec_wire hc, hfi] at hr
  cases hr
  have hread : memReadBytes (loadFrame f s).txbuf 0 f.length = f :=
    memReadBytes_memWriteBytes h.txbuf 0 f (by omega)
  exact inv_finish ((h.sound.loadFrame hfits).transact cmd statusValue fun ok => ⟨i, hread.symm ▸ hd, hw⟩)
    (frameEnds_timer (transact_ends cmd f.length statusValue _) (h.stopped (by simp [hp])))

/-! ### The statements -/

/-- The events to come are no part of the invariant. -/
theorem Inv.withInbox {s : State} (h : Inv s) (rest : List HostEvent) : Inv { s with inbox := rest } := { h with }

theorem inv_proceed {s t : State} (h : Inv s) (hn : proceed s = .next t) : Inv t := by
  rcases proceed_cases hn with ⟨hp, r, rest, -, hr⟩ | ⟨hp, r, rest, -, rfl⟩ | ⟨-, rfl⟩ | ⟨hp, hr⟩ | ⟨-, -, hr⟩
  · exact inv_runRequest (h.withInbox rest) hp hr
  · exact inv_accept (h.withInbox rest) hp r
  · exact h
  · exact inv_runFrame h hp hr
  · exact inv_phaseEdge h hr

/-- Settles O54. -/
theorem stepKeepsTheInvariant : Obligations.StepKeepsTheInvariant := by
  intro s t h hn
  rcases step_cases hn with ⟨rest, -, rfl⟩ | ⟨rest, -, he⟩ | ⟨-, hp⟩
  · exact (h.withInbox rest).sound.reset.inv_of_not_inFrame rfl (by simp) rfl
  · exact inv_phaseEdge (h.withInbox rest) he
  · exact inv_proceed h hp

/-- Settles O53. -/
theorem resetSatisfiesTheInvariant : Obligations.ResetSatisfiesTheInvariant := by
  have hinv : ∀ p : Params, p.wf = true → Inv (State.powerOn p) := fun p hp =>
    (sound_powerOn hp).inv_of_not_inFrame rfl (by simp [State.powerOn]) rfl
  exact ⟨hinv _ (by decide), hinv⟩

theorem phaseEdge_next {s : State} (h : Inv s) : ∃ t, phaseEdge s = .next t := by
  by_cases hf : inFrame s.phase = true
  · obtain ⟨op, hop, -⟩ := h.busy hf
    exact ⟨_, phaseEdge_frame hf hop⟩
  · cases hp : s.phase <;> simp only [hp, inFrame, not_true_eq_false] at hf
    case idle => exact ⟨s, by simp only [phaseEdge, hp]⟩
    case done => exact ⟨_, phaseEdge_done hp⟩
    case check =>
      cases hq : s.req with
      | none => simp [h.req.mp hq] at hp
      | some q =>
        simp only [phaseEdge, hp, checkEdge, hq]
        split <;> exact ⟨_, rfl⟩

theorem runFrame_next {s : State} (h : Inv s) (hp : s.phase = .tx) : ∃ t, runFrame s = .next t := by
  obtain ⟨f, i, hf, hd, hw, -⟩ := h.frame hp
  rw [runFrame_of_decode hf hd]
  exact wellFormedOperationsComplete i s hw

theorem wf_of_host {i : Instr} {q : Request} (h : encode i = .host q) : i.wf = true := by
  cases i
  case wireReadStatus | wireWriteSingle | wireWriteMultiple => cases h
  all_goals rfl

theorem runRequest_next (r : Request) (s : State) : ∃ t, runRequest r s = .next t := by
  cases hd : decode (.host r) with
  | ok i =>
    obtain ⟨q, hq, -⟩ := decodeRequest_ok hd
    rw [runRequest_of_decode hd]
    exact wellFormedOperationsComplete i s (wf_of_host hq)
  | error e => exact ⟨rejectOpcode r s, by simp only [runRequest, hd]⟩

theorem proceed_next {s : State} (h : Inv s) : ∃ t, proceed s = .next t := by
  unfold proceed
  split
  · split
    · exact runRequest_next _ _
    · exact ⟨_, rfl⟩
    · exact ⟨_, rfl⟩
  · next hp => exact runFrame_next h hp
  all_goals exact phaseEdge_next h

/-- Settles O55: an edge finds its operation in REQ, TX its frame in TXBUF, and every operation answers. -/
theorem invariantStatesNeverStop : Obligations.InvariantStatesNeverStop := by
  intro s h
  unfold step
  split
  · exact ⟨_, rfl⟩
  · next rest _ => exact phaseEdge_next (h.withInbox rest)
  · exact proceed_next h

end Sys2Proof.Machine
end

section
/-! PROOF of O36 and O37, and the laws of the checksum for the services (R93 to R100): what insert and extract do to
each other, and that each step of the CRC loop can be undone, so that one changed byte changes the CRC. -/

namespace Sys2Proof.Machine

/-! ### Insert and extract -/

theorem byteAt_of_getElem? {f : Bytes} {i : Nat} {b : Byte} (h : f[i]? = some b) : byteAt f i = b := by
  simp [byteAt, List.getD_eq_getElem?_getD, h]

section
variable {m : Bytes} {n : Nat}

@[simp] theorem insertCrc_length (m : Bytes) (n : Nat) (c : Half) : (insertCrc m n c).length = m.length := by
  simp [insertCrc]

theorem insertCrc_getElem?_high (h2 : 2 ≤ n) (hn : n ≤ m.length) (c : Half) :
    (insertCrc m n c)[n - 2]? = some (hiByte c) := by
  rw [insertCrc, List.getElem?_set_ne (by omega), List.getElem?_set_self (by omega)]

theorem insertCrc_getElem?_low (h2 : 2 ≤ n) (hn : n ≤ m.length) (c : Half) :
    (insertCrc m n c)[n - 1]? = some (loByte c) := by
  rw [insertCrc, List.getElem?_set_self (by simp; omega)]

theorem insertCrc_getElem?_other (c : Half) {k : Nat} (hhi : k ≠ n - 2) (hlo : k ≠ n - 1) :
    (insertCrc m n c)[k]? = m[k]? := by
  rw [insertCrc, List.getElem?_set_ne hlo.symm, List.getElem?_set_ne hhi.symm]

/-- The bytes that the checksum covers are not those it is stored in (R97, R99). -/
theorem take_insertCrc (m : Bytes) (n : Nat) (c : Half) : (insertCrc m n c).take (n - 2) = m.take (n - 2) := by
  rw [insertCrc, List.take_set_of_le (by omega), List.take_set_of_le (by omega)]

theorem extractCrc_insertCrc (h2 : 2 ≤ n) (hn : n ≤ m.length) (c : Half) : extractCrc (insertCrc m n c) n = c := by
  rw [extractCrc, byteAt_of_getElem? (insertCrc_getElem?_high h2 hn c),
    byteAt_of_getElem? (insertCrc_getElem?_low h2 hn c), hiByte_append_loByte]

theorem insertCrc_insertCrc (h2 : 2 ≤ n) (c c' : Half) : insertCrc (insertCrc m n c) n c' = insertCrc m n c' := by
  have hne : n - 1 ≠ n - 2 := by omega
  rw [insertCrc, insertCrc, insertCrc, List.set_comm _ _ hne, List.set_set, List.set_set]

theorem sealCrc_insertCrc (h2 : 2 ≤ n) (c : Half) (sw : Bool) : sealCrc (insertCrc m n c) n sw = sealCrc m n sw := by
  rw [sealCrc, sealCrc, insertCrc_insertCrc h2, crcOf_take (take_insertCrc m n c)]

end

/-- Settles O36: sealing stores the CRC of bytes that it does not touch. -/
theorem sealedMessageVerifies : Obligations.SealedMessageVerifies := by
  intro m n sw h2 hn
  rw [crcMatches, sealCrc, extractCrc_insertCrc h2 hn, crcOf_take (take_insertCrc m n _), beq_self_eq_true]

/-! ### The CRC loop can be undone -/

/-- The top bit of a shifted register is 0 and that of the polynomial is 1, so it tells the bit shifted out (R93). -/
theorem crcBit_top (c : Half) : (crcBit c).getLsbD 15 = c.getLsbD 0 := by
  unfold crcBit
  cases h : c.getLsbD 0 <;> simp

theorem crcBit_injective : Function.Injective crcBit := by
  intro c d h
  have h0 : c.getLsbD 0 = d.getLsbD 0 := by rw [← crcBit_top, ← crcBit_top, h]
  have hshift : c >>> 1 = d >>> 1 := by
    unfold crcBit at h
    rw [h0] at h
    split_ifs at h
    · simpa using h
    · exact h
  refine BitVec.eq_of_getLsbD_eq fun i _ => ?_
  cases i with
  | zero => exact h0
  | succ i => simpa [Nat.add_comm] using congrArg (·.getLsbD i) hshift

theorem crcByte_eq_iterate (c : Half) (b : Byte) : crcByte c b = crcBit^[8] (c ^^^ b.setWidth 16) := rfl

theorem crcByte_injective_left (b : Byte) : Function.Injective fun c => crcByte c b := by
  intro c d h
  simp only [crcByte_eq_iterate] at h
  have hx : c ^^^ b.setWidth 16 = d ^^^ b.setWidth 16 := crcBit_injective.iterate 8 h
  simpa using hx

theorem crcByte_injective_right (c : Half) : Function.Injective (crcByte c) := by
  intro a b h
  simp only [crcByte_eq_iterate] at h
  have hx : c ^^^ a.setWidth 16 = c ^^^ b.setWidth 16 := crcBit_injective.iterate 8 h
  have hw : a.setWidth 16 = b.setWidth 16 := by simpa using hx
  have ht := congrArg (BitVec.setWidth 8) hw
  simpa using ht

theorem foldl_crcByte_injective (bs : Bytes) : Function.Injective fun c => bs.foldl crcByte c := by
  induction bs with
  | nil => exact fun _ _ h => h
  | cons b bs ih => exact fun _ _ h => crcByte_injective_left b (ih h)

/-- One changed byte leaves the registers before it alone, changes the one after it, and every one from there on. -/
theorem foldl_crcByte_set {bs : Bytes} {k : Nat} (hk : k < bs.length) {b : Byte} (hb : bs[k] ≠ b) (c : Half) :
    (bs.set k b).foldl crcByte c ≠ bs.foldl crcByte c := by
  induction bs generalizing k c with
  | nil => simp at hk
  | cons x xs ih =>
    cases k with
    | zero => exact fun h => hb (crcByte_injective_right c (foldl_crcByte_injective xs h)).symm
    | succ k => exact ih (Nat.lt_of_succ_lt_succ hk) hb (crcByte c x)

theorem swap16_injective : Function.Injective swap16 := Function.LeftInverse.injective swap16_swap16

theorem crcOf_set_ne {m : Bytes} {n k : Nat} (hk : k < n) (hm : k < m.length) {b : Byte} (hb : m[k] ≠ b) (sw : Bool) :
    crcOf (m.set k b) n sw ≠ crcOf m n sw := by
  have hraw : crcRaw (m.set k b) n ≠ crcRaw m n := by
    rw [crcRaw, crcRaw, List.take_set]
    exact foldl_crcByte_set (by simp; omega) (by simpa using hb) _
  cases sw
  · exact hraw
  · exact fun h => hraw (swap16_injective h)

/-! ### A changed checksum byte -/

theorem append_injective {a b c d : Byte} (h : (a ++ b : Half) = c ++ d) : a = c ∧ b = d :=
  ⟨by rw [← hiByte_append a b, h, hiByte_append], by rw [← loByte_append a b, h, loByte_append]⟩

theorem extractCrc_set_below {m : Bytes} {n k : Nat} (hk : k < n - 2) (b : Byte) :
    extractCrc (m.set k b) n = extractCrc m n := by
  simp only [extractCrc, byteAt, List.getD_eq_getElem?_getD]
  rw [List.getElem?_set_ne (by omega), List.getElem?_set_ne (by omega)]

theorem extractCrc_set_ne {m : Bytes} {n k : Nat} (h2 : 2 ≤ n) (hlo : n - 2 ≤ k) (hk : k < n) (hm : k < m.length)
    {b : Byte} (hb : m[k] ≠ b) : extractCrc (m.set k b) n ≠ extractCrc m n := by
  intro h
  obtain ⟨hhi, hlow⟩ := append_injective h
  have hset : byteAt (m.set k b) k = b := byteAt_of_getElem? (List.getElem?_set_self hm)
  have hold : byteAt m k = m[k] := byteAt_of_getElem? (List.getElem?_eq_getElem hm)
  obtain rfl | rfl : k = n - 2 ∨ k = n - 1 := by omega
  · exact hb (by rw [← hold, ← hhi, hset])
  · exact hb (by rw [← hold, ← hlow, hset])

/-- Settles O37: a byte that the checksum covers changes the CRC and not the two bytes compared with it, and one of
these two changes the comparison's other side only. -/
theorem oneChangedByteIsDetected : Obligations.OneChangedByteIsDetected := by
  intro m n k b sw h2 hn hk hb hmatch
  have hm : k < m.length := by omega
  have hne : m[k] ≠ b := fun h => hb (by rw [List.getElem?_eq_getElem hm, h])
  rw [crcMatches, beq_iff_eq] at hmatch
  rw [crcMatches, beq_eq_false_iff_ne]
  by_cases hlo : k < n - 2
  · rw [extractCrc_set_below hlo, ← hmatch]
    exact crcOf_set_ne hlo hm hne sw
  · rw [crcOf_take (q := m) (List.take_set_of_le (by omega)), hmatch]
    exact (extractCrc_set_ne h2 (by omega) hk hm hne).symm

end Sys2Proof.Machine
end

section
/-! PROOF of the statements on operations that are done in CHECK (R95 to R100, R107 to R110, R131 to R135), and of
those on the transport's answers (R21, R64): O13, O14, O16 to O19, O31 to O35, O38 to O40, O42 and O45 to O47. -/

namespace Sys2Proof.Machine

/-! ### An effect that only succeeds or raises -/

section
variable {i : Instr} {effect : State → State} (hc : courseOf i = some (.localEffect effect))
  (hne : ((requestOf i).opc == 0x04#8) = false) {s : State}
include hc hne

theorem exec_of_effect :
    exec i s = .next (completed (effect (accept (requestOf i) s)) (effect (accept (requestOf i) s)).res) := by
  have hreq := effectEnds_req (localEffect_ends hc (accept (requestOf i) s))
  have hread : isCsrRead (effect (accept (requestOf i) s)) = false := by
    rw [isCsrRead_congr hreq]
    exact hne
  rw [exec_localEffect hc, runLocalOp, finish_eq_completed hread]

/-- An operation whose effect is a success returns it and changes nothing else. -/
theorem exec_of_succeed {v : Word} {d : Bytes}
    (h : effect (accept (requestOf i) s) = succeed v d (accept (requestOf i) s)) :
    exec i s = .next (completed s (okResult v d false)) := by
  rw [exec_of_effect hc hne, h]
  rfl

/-- An operation whose effect is a raise returns the error and changes nothing else. -/
theorem exec_of_raise {e : OpError} (h : effect (accept (requestOf i) s) = raise e (accept (requestOf i) s)) :
    exec i s = .next (completed s (errorResult e false)) := by
  rw [exec_of_effect hc hne, h]
  rfl

end

/-! ### The checksum services -/

theorem guardCompute_iff {d : Bytes} {n : Half} : guardCompute d n = true ↔ d.length ≤ 261 ∧ n.toNat ≤ d.length := by
  simp only [guardCompute, Bool.and_eq_true, decide_eq_true_eq]
  exact Iff.rfl

theorem guardTrailer_iff {m : Bytes} {n : Half} :
    guardTrailer m n = true ↔ m.length ≤ 261 ∧ 2 ≤ n.toNat ∧ n.toNat ≤ m.length := by
  simp only [guardTrailer, Bool.and_eq_true, guardCompute_iff, decide_eq_true_eq]
  tauto

theorem crcOf_zero (d : Bytes) (sw : Bool) : crcOf d 0 sw = 0xFFFF#16 := by
  have hraw : crcRaw d 0 = 0xFFFF#16 := rfl
  cases sw <;> simp [crcOf, hraw, swap16, hiByte, loByte]

/-- Settles O31. -/
theorem crcComputeReturnsTheCrc : Obligations.CrcComputeReturnsTheCrc := by
  refine ⟨fun s d n h1 h2 => ?_, fun s d n h => ?_, crcOf_zero, fun d e n sw h => crcOf_take h⟩
  · exact exec_of_succeed (effect := crcComputeOp d n) rfl rfl (if_pos (guardCompute_iff.mpr ⟨h1, h2⟩))
  · exact exec_of_raise (effect := crcComputeOp d n) rfl rfl (if_neg (guardCompute_iff.not.mpr h))

/-- Settles O32. -/
theorem crcInsertStoresTheCrc : Obligations.CrcInsertStoresTheCrc := by
  refine ⟨fun s m n c h1 h2 h3 => ⟨insertCrc m n.toNat c, ?_, insertCrc_length m _ c, insertCrc_getElem?_high h2 h3 c,
    insertCrc_getElem?_low h2 h3 c, fun k => insertCrc_getElem?_other c⟩, fun s m n c h => ?_⟩
  · exact exec_of_succeed (effect := crcInsertOp m n c) rfl rfl (if_pos (guardTrailer_iff.mpr ⟨h1, h2, h3⟩))
  · exact exec_of_raise (effect := crcInsertOp m n c) rfl rfl (if_neg (guardTrailer_iff.not.mpr h))

theorem extractCrc_toNat {m : Bytes} {n : Nat} {hi lo : Byte} (h1 : m[n - 2]? = some hi) (h2 : m[n - 1]? = some lo) :
    (extractCrc m n).toNat = 256 * hi.toNat + lo.toNat := by
  rw [extractCrc, byteAt_of_getElem? h1, byteAt_of_getElem? h2, toNat_byte_append]

/-- Settles O33. -/
theorem crcExtractReadsTheTrailer : Obligations.CrcExtractReadsTheTrailer := by
  refine ⟨fun s m n hi lo h1 h2 h3 hhi hlo => ⟨(extractCrc m n.toNat).setWidth 32, ?_, ?_⟩, fun s m n h => ?_,
    fun m n c h2 hn => extractCrc_insertCrc h2 hn c⟩
  · rw [BitVec.toNat_setWidth_of_le (by decide), extractCrc_toNat hhi hlo]
  · exact exec_of_succeed (effect := crcExtractOp m n) rfl rfl (if_pos (guardTrailer_iff.mpr ⟨h1, h2, h3⟩))
  · exact exec_of_raise (effect := crcExtractOp m n) rfl rfl (if_neg (guardTrailer_iff.not.mpr h))

/-- Settles O34. -/
theorem crcSetSealsTheMessage : Obligations.CrcSetSealsTheMessage := by
  refine ⟨fun s m n h1 h2 h3 => ?_, fun s m n h => ?_, fun m n c sw h2 _ => sealCrc_insertCrc h2 c sw⟩
  · exact exec_of_succeed (effect := crcSetOp m n) rfl rfl (if_pos (guardTrailer_iff.mpr ⟨h1, h2, h3⟩))
  · exact exec_of_raise (effect := crcSetOp m n) rfl rfl (if_neg (guardTrailer_iff.not.mpr h))

theorem crcMatches_iff {m : Bytes} {n : Nat} {sw : Bool} :
    crcMatches m n sw = true ↔ crcOf m (n - 2) sw = extractCrc m n := beq_iff_eq

theorem crcVerifyOp_of_guard {m : Bytes} {n : Half} (h : m.length ≤ 261 ∧ 2 ≤ n.toNat ∧ n.toNat ≤ m.length)
    (strict : Bool) (s : State) :
    crcVerifyOp m n strict s =
      if crcMatches m n.toNat (reqSwap s) then succeed 1#32 [] s
      else if strict then raise .crcMismatch s
      else succeed 0#32 [] (setWarn s) :=
  if_pos (guardTrailer_iff.mpr h)

/-- Settles O35: within the guard the comparison decides, and then the operand. -/
theorem crcVerifyReportsTheMatch : Obligations.CrcVerifyReportsTheMatch := by
  intro s m n strict
  refine ⟨fun h1 h2 h3 hm => ?_, fun h1 h2 h3 hm hs => ?_, fun h1 h2 h3 hm hs => ?_, fun h => ?_⟩
  · refine exec_of_succeed (effect := crcVerifyOp m n strict) rfl rfl ?_
    rw [crcVerifyOp_of_guard ⟨h1, h2, h3⟩]
    exact if_pos (crcMatches_iff.mpr hm)
  · refine exec_of_raise (effect := crcVerifyOp m n strict) rfl rfl ?_
    rw [crcVerifyOp_of_guard ⟨h1, h2, h3⟩, if_pos hs]
    exact if_neg (crcMatches_iff.not.mpr hm)
  · have hm' : ¬ crcMatches m n.toNat (reqSwap (accept (requestOf (.crcVerify m n strict)) s)) = true :=
      crcMatches_iff.not.mpr hm
    rw [exec_of_effect (effect := crcVerifyOp m n strict) rfl rfl, crcVerifyOp_of_guard ⟨h1, h2, h3⟩, if_neg hm',
      if_neg (by simp [hs])]
    rfl
  · exact exec_of_raise (effect := crcVerifyOp m n strict) rfl rfl (if_neg (guardTrailer_iff.not.mpr h))

/-! ### The codec services -/

/-- Settles O38: neither service has a check. -/
theorem buildServicesReturnTheFrame : Obligations.BuildServicesReturnTheFrame := fun _ reg v =>
  ⟨exec_of_succeed (effect := buildReadStatusOp) rfl rfl rfl,
    exec_of_succeed (effect := buildWriteSingleOp reg v) rfl rfl rfl⟩

/-- Settles O39. -/
theorem buildWriteMultipleChecksTheCount : Obligations.BuildWriteMultipleChecksTheCount := by
  refine fun s start count vals => ⟨fun h1 h2 h3 => ?_, fun h => ?_⟩
  · have hok := countOk_iff.mpr ⟨h1, h2, h3⟩
    exact exec_of_succeed (effect := buildWriteMultipleOp start count vals) rfl rfl (if_pos hok)
  · exact exec_of_raise (effect := buildWriteMultipleOp start count vals) rfl rfl (if_neg (countOk_iff.not.mpr h))

/-- Settles O40. -/
theorem decodeServiceReturnsTheFields : Obligations.DecodeServiceReturnsTheFields := by
  refine fun s r => ⟨fun h => ⟨_, rfl, ?_⟩, fun h => ?_⟩
  · exact exec_of_succeed (effect := decodeStatusBankOp r) rfl rfl (if_pos h)
  · exact exec_of_raise (effect := decodeStatusBankOp r) rfl rfl (if_neg h)

theorem byteAt_set_ne {r : Bytes} {i j : Nat} (h : i ≠ j) (b : Byte) : byteAt (r.set i b) j = byteAt r j := by
  simp only [byteAt, List.getD_eq_getElem?_getD, List.getElem?_set_ne h]

theorem byteAt_set_same {r : Bytes} {i : Nat} (h : i < r.length) (b : Byte) : byteAt (r.set i b) i = b :=
  byteAt_of_getElem? (List.getElem?_set_self h)

/-- A field that starts above a byte is not changed with it (R80). -/
theorem unbe24_set_below {r : Bytes} {i o : Nat} (h : i < o) (b : Byte) : unbe24 (r.set i b) o = unbe24 r o := by
  simp only [unbe24, byteAt_set_ne (show i ≠ o by omega), byteAt_set_ne (show i ≠ o + 1 by omega),
    byteAt_set_ne (show i ≠ o + 2 by omega)]

/-- The ranges of the offsets put voltage and current above byte 3 (R10). -/
theorem offsets_of_wf {p : Params} (h : p.wf = true) : 4 ≤ p.offV.toNat ∧ 4 ≤ p.offI.toNat := by
  simp only [Params.wf, Bool.and_eq_true, decide_eq_true_eq] at h
  obtain ⟨⟨⟨⟨-, hv⟩, -⟩, hi⟩, -⟩ := h
  exact ⟨hv, hi⟩

/-- Settles O42: bit 0 is the switch, the mode's bits lie above it, and the other fields in other bytes. -/
theorem switchBitFlipsOnlyTheSwitch : Obligations.SwitchBitFlipsOnlyTheSwitch := by
  intro p r hp hr
  obtain ⟨hv, hi⟩ := offsets_of_wf hp
  have hb : byteAt (r.set 3 (byteAt r 3 ^^^ 1#8)) 3 = byteAt r 3 ^^^ 1#8 := byteAt_set_same (by omega) _
  have hswitch : ∀ b : Byte, (b ^^^ 1#8).extractLsb' 0 1 = b.extractLsb' 0 1 ^^^ 1#1 := by
    intro b
    rw [BitVec.extractLsb'_xor]
    rfl
  have hmode : ∀ b : Byte, (b ^^^ 1#8).extractLsb' 1 3 = b.extractLsb' 1 3 := by
    intro b
    rw [BitVec.extractLsb'_xor]
    exact BitVec.xor_zero
  simp only [decodeStatus, hb, hswitch, hmode, unbe24_set_below (show 3 < p.offV.toNat by omega),
    unbe24_set_below (show 3 < p.offI.toNat by omega)]

/-! ### Register access -/

theorem exec_csrRead (s : State) (i : Half) :
    exec (.csrRead i) s = .next (returnedIn s
      (match csrValue s i with
        | some v => okResult v [] false
        | none => errorResult .badCsr false)) := by
  have hv : csrValue (accept { opc := 0x04#8, a16 := i } s) i = csrValue s i := rfl
  simp only [exec, execCsrRead, runLocalOp, csrReadOp, hv]
  cases csrValue s i with
  | some v => exact congrArg _ (finish_succeed_accept_csrRead rfl v [] s)
  | none => exact congrArg _ (finish_raise_accept_csrRead rfl .badCsr s)

theorem exec_csrRead_some {s : State} {i : Half} {v : Word} (h : csrValue s i = some v) :
    exec (.csrRead i) s = .next (returnedIn s (okResult v [] false)) := by
  rw [exec_csrRead, h]

theorem csrValue_eq_none_iff {s : State} {i : Half} : csrValue s i = none ↔ 8 < i.toNat := by
  simp only [csrValue, ← BitVec.toNat_inj, BitVec.toNat_ofNat]
  constructor
  · intro h
    by_contra hle
    split_ifs at h
    omega
  · intro h
    have hne : ∀ k < 9, i.toNat ≠ k := fun k hk => by omega
    simp only [hne, Nat.reduceMod, Nat.reducePow, Nat.reduceLT, if_false]

/-! #### The registers' words as numbers (R25 to R33, R37) -/

theorem toNat_append_add {v w : Nat} (x : BitVec v) (y : BitVec w) : (x ++ y).toNat = 2 ^ w * x.toNat + y.toNat := by
  rw [BitVec.toNat_append, Nat.mul_comm, ← Nat.shiftLeft_add_eq_or_of_lt y.isLt, Nat.shiftLeft_eq]

theorem ctrlWord_toNat (s : State) : (ctrlWord s).toNat = s.strict.toNat + 2 * s.crcSwap.toNat := by
  simp only [ctrlWord, toNat_append_add, BitVec.toNat_ofBool, BitVec.toNat_ofNat, Nat.zero_mod]
  omega

theorem linkBit_toNat (l : Link) : (linkBit l).toNat = if l = .opened then 1 else 0 := by
  cases l <;> rfl

theorem statusWord_toNat (s : State) :
    (statusWord s).toNat = (if s.link = .opened then 1 else 0) + 2 * s.valid.toNat := by
  simp only [statusWord, toNat_append_add, BitVec.toNat_ofBool, BitVec.toNat_ofNat, Nat.zero_mod, linkBit_toNat]
  omega

theorem lastResultWord_toNat (s : State) :
    (lastResultWord s).toNat =
      s.lastResult.err.toNat + 8 * s.lastResult.warn.toNat + 256 * s.lastResult.reason.toNat := by
  simp only [lastResultWord, toNat_append_add, BitVec.toNat_ofBool, BitVec.toNat_ofNat, Nat.zero_mod]
  omega

theorem cfgWord_toNat (p : Params) :
    (cfgWord p).toNat = p.modeMask.toNat + 256 * p.offV.toNat + 65536 * p.offI.toNat := by
  simp only [cfgWord, toNat_append_add, BitVec.toNat_ofNat, Nat.zero_mod]
  omega

theorem toNat_widen {w : Nat} (x : BitVec w) (h : w ≤ 32) : (x.setWidth 32).toNat = x.toNat :=
  BitVec.toNat_setWidth_of_le h

theorem registerReads_of_csrValue {s : State} {i : Half} {v : Word} (h : csrValue s i = some v) :
    registerReads s i v := by
  refine ⟨?_, ?_, ?_, ?_, ?_, ?_, ?_, ?_, ?_⟩ <;> rintro rfl <;> cases h
  · exact ctrlWord_toNat s
  · exact toNat_widen s.addr (by decide)
  · exact statusWord_toNat s
  · exact lastResultWord_toNat s
  · exact toNat_widen s.devSwitch (by decide)
  · exact toNat_widen s.devMode (by decide)
  · exact toNat_widen s.devVoltage (by decide)
  · exact toNat_widen s.devCurrent (by decide)
  · exact cfgWord_toNat s.params

/-- The device-state registers read 0 until the first decoded response (R29). -/
theorem csrValue_unread {s : State} {i : Half} (h : Inv s) (hv : s.valid = false) (h4 : 4 ≤ i.toNat)
    (h7 : i.toNat ≤ 7) : csrValue s i = some 0#32 := by
  obtain ⟨hswitch, hmode, hvoltage, hcurrent⟩ := h.unread hv
  have hi : i = 4#16 ∨ i = 5#16 ∨ i = 6#16 ∨ i = 7#16 := by
    simp only [← BitVec.toNat_inj, BitVec.toNat_ofNat]
    omega
  rcases hi with rfl | rfl | rfl | rfl
  · simp [csrValue, hswitch]
  · simp [csrValue, hmode]
  · simp [csrValue, hvoltage]
  · simp [csrValue, hcurrent]

/-- Settles O13: what is read is `csrValue`, which is some word for the nine indices and none above. -/
theorem csrReadReturnsTheRegister : Obligations.CsrReadReturnsTheRegister := by
  refine ⟨fun s i hi => ?_, fun s i hi => ?_, fun s i h hv h4 h7 => ?_, ?_, ?_⟩
  · cases hv : csrValue s i with
    | none => exact absurd (csrValue_eq_none_iff.mp hv) (by omega)
    | some v => exact ⟨v, registerReads_of_csrValue hv, exec_csrRead_some hv⟩
  · rw [exec_csrRead, csrValue_eq_none_iff.mpr hi]
  · exact exec_csrRead_some (csrValue_unread h hv h4 h7)
  · have hctrl : csrValue State.reset 0x0000#16 = some 0x00000001#32 := by decide
    exact exec_csrRead_some hctrl
  · have hcfg : csrValue State.reset 0x0008#16 = some 0x00080503#32 := congrArg some cfgWord_canonical
    exact exec_csrRead_some hcfg

theorem exec_csrWrite_ctrl (s : State) (v : Word) :
    exec (.csrWrite 0x0000#16 v) s =
      .next (completed { s with strict := v.getLsbD 0, crcSwap := v.getLsbD 1 } (okResult 0#32 [] false)) :=
  exec_of_effect (effect := csrWriteOp 0x0000#16 v) rfl rfl

theorem exec_csrWrite_addr (s : State) (v : Word) :
    exec (.csrWrite 0x0001#16 v) s =
      .next (completed { s with addr := v.extractLsb' 0 8 } (okResult 0#32 [] false)) :=
  exec_of_effect (effect := csrWriteOp 0x0001#16 v) rfl rfl

/-- Settles O14. -/
theorem csrWriteStoresTheDefinedFields : Obligations.CsrWriteStoresTheDefinedFields := by
  refine ⟨exec_csrWrite_ctrl, exec_csrWrite_addr, fun s i v hi => ?_⟩
  have h0 : i ≠ 0x0000#16 := by rintro rfl; simp at hi
  have h1 : i ≠ 0x0001#16 := by rintro rfl; simp at hi
  exact exec_of_raise (effect := csrWriteOp i v) rfl rfl ((if_neg h0).trans (if_neg h1))

/-- The defined bits of CTRL (R25). -/
theorem and_three (v : Word) :
    (0#30 ++ BitVec.ofBool (v.getLsbD 1) ++ BitVec.ofBool (v.getLsbD 0) : Word) = v &&& 3#32 := by
  have hmask : ∀ i < 32, (3#32).getLsbD i = decide (i < 2) := by decide
  refine BitVec.eq_of_getLsbD_eq fun i hi => ?_
  rw [BitVec.getLsbD_and, hmask i hi, BitVec.getLsbD_append, BitVec.getLsbD_append]
  match i with
  | 0 => simp
  | 1 => simp
  | i + 2 => simp

/-- The defined bits of ADDR (R28). -/
theorem and_ff (v : Word) : ((v.extractLsb' 0 8).setWidth 32 : Word) = v &&& 0xFF#32 := by
  apply BitVec.eq_of_toNat_eq
  have hmod : (v &&& 0xFF#32).toNat = v.toNat % 256 := Nat.and_two_pow_sub_one_eq_mod v.toNat 8
  rw [hmod]
  simp
  omega

/-- Settles O16. -/
theorem csrWriteThenRead : Obligations.CsrWriteThenRead := by
  refine fun s v => ⟨⟨_, exec_csrWrite_ctrl s v, ?_⟩, ⟨_, exec_csrWrite_addr s v, ?_⟩⟩
  · exact exec_csrRead_some (congrArg some (and_three v))
  · exact exec_csrRead_some (congrArg some (and_ff v))

/-! ### Link operations -/

theorem openPortOp_closed {s : State} (hl : s.link = .closed) (port : Bytes) (baud : Word) :
    openPortOp port baud s =
      let s' := record (.openPort port baud format8N1 (feedOk s.feed)) (setFeed (afterOk s.feed) s)
      if feedOk s.feed then succeed 0#32 [] (setLink .opened s') else raise .openFail s' :=
  if_neg (by simp [hl])

/-- Settles O17: the answer of T_OPEN decides. -/
theorem openBindsTheTransport : Obligations.OpenBindsTheTransport := by
  refine fun s port baud => ⟨fun hl => ?_, fun hl hok => ?_, fun hl hok => ?_⟩
  · exact exec_of_raise (effect := openPortOp port baud) rfl rfl (if_pos hl)
  all_goals
    have hl' : (accept (requestOf (.openPort port baud)) s).link = .closed := hl
    have hok' : feedOk (accept (requestOf (.openPort port baud)) s).feed = _ := hok
    rw [exec_of_effect (effect := openPortOp port baud) rfl rfl, openPortOp_closed hl', hok']
    refine congrArg _ ?_
    ext <;> simp [format8N1, okResult, errorResult, Result.blank]

/-- Settles O18. -/
theorem closeUnbindsTheTransport : Obligations.CloseUnbindsTheTransport := by
  refine fun s => ⟨fun hl => ?_, fun hl => ?_⟩
  · have he : closePortOp (accept (requestOf .closePort) s) =
        succeed 0#32 [] (setLink .closed (record .close (accept (requestOf .closePort) s))) := if_pos hl
    rw [exec_of_effect (effect := closePortOp) rfl rfl, he]
    refine congrArg _ ?_
    ext <;> simp [okResult, Result.blank]
  · exact exec_of_succeed (effect := closePortOp) rfl rfl (if_neg (by simp [hl]))

/-- Settles O19. -/
theorem flushNeedsAnOpenLink : Obligations.FlushNeedsAnOpenLink := by
  refine fun s => ⟨fun hl => ?_, fun hl => ?_⟩
  · have he : flushPortOp (accept (requestOf .flushPort) s) =
        succeed 0#32 [] (record .flush (accept (requestOf .flushPort) s)) := if_neg (by simp [hl])
    rw [exec_of_effect (effect := flushPortOp) rfl rfl, he]
    rfl
  · exact exec_of_raise (effect := flushPortOp) rfl rfl (if_pos (by simp [hl]))

/-! ### Transport answers -/

/-- Settles O46. -/
theorem okReadHasTheLengthAsked : Obligations.OkReadHasTheLengthAsked := fun _ _ _ => feedRead_ok

theorem afterOk_answers (f : Feed) : (afterOk f).answers = f.answers.tail := by
  unfold afterOk
  split
  · next h => simp [h]
  · rfl

theorem afterRead_answers (n : Nat) (f : Feed) : (afterRead n f).answers = f.answers.tail := by
  unfold afterRead
  split
  · next h => split <;> simp [h]
  · next h => simp [h]
  · rfl

/-- Settles O47. -/
theorem answersAreTakenInOrder : Obligations.AnswersAreTakenInOrder := by
  refine fun f n rest => ⟨fun b h => ?_, fun r h hr => ?_, fun why h => ?_, afterOk_answers f, afterRead_answers n f⟩
  · simp [feedOk, afterOk, h]
  · simp [feedRead, afterRead, h, hr]
  · simp [feedRead, afterRead, h]

/-! ### A frame that does not exist -/

/-- Settles O45. -/
theorem wireCountOutOfRangeFaults : Obligations.WireCountOutOfRangeFaults := fun _ _ _ _ _ h =>
  if_neg (valuesValid_iff.not.mpr h)

end Sys2Proof.Machine
end

section
/-! PROOF of O21 to O27, O43 and O44 (R111, R114 to R119): what a whole frame-issuing operation, or a frame carried out
by itself, leaves for each course of its exchange. -/

namespace Sys2Proof.Machine

/-! ### The operations that send a frame -/

theorem issues_course {i : Instr} {cmd : WireCmd} {f : Byte → Bool → Bytes} (h : Issues i cmd f) :
    ∃ op, courseOf i = some (.frame op) ∧ op.cmd = cmd ∧ op.paramsOk = true ∧
      ∀ a sw, sealFrame (op.layout a) sw = f a sw := by
  cases h with
  | setMode m h => exact ⟨_, rfl, rfl, decide_eq_true h, fun _ _ => rfl⟩
  | setLoadSwitch v h => exact ⟨_, rfl, rfl, decide_eq_true h, fun _ _ => rfl⟩
  | writeRegisters start count vals h1 h2 h3 => exact ⟨_, rfl, rfl, countOk_iff.mpr ⟨h1, h2, h3⟩, fun _ _ => rfl⟩
  | _ => exact ⟨_, rfl, rfl, rfl, fun _ _ => rfl⟩

theorem issues_of_course {i : Instr} {op : FrameOp} (h : courseOf i = some (.frame op)) (hp : op.paramsOk = true) :
    ∃ cmd f, Issues i cmd f := by
  cases i <;> cases h
  case setMode m => exact ⟨_, _, .setMode m (of_decide_eq_true hp)⟩
  case setLoadSwitch v => exact ⟨_, _, .setLoadSwitch v (of_decide_eq_true hp)⟩
  case writeRegisters start count vals =>
    obtain ⟨h1, h2, h3⟩ := countOk_iff.mp hp
    exact ⟨_, _, .writeRegisters start count vals h1 h2 h3⟩
  all_goals exact ⟨_, _, by constructor⟩

theorem course_of_frameIssuing {i : Instr} (h : frameIssuing i = true) : ∃ op, courseOf i = some (.frame op) := by
  cases i
  case setCurrent | setPower | setResistance | setMode | setLoadSwitch | writeRegister | writeRegisters | getStatus |
      getCurrent | getVoltage | getMode | getSwitch => exact ⟨_, rfl⟩
  all_goals cases h

/-! ### The checks -/

theorem exec_of_check {i : Instr} {op : FrameOp} (hc : courseOf i = some (.frame op)) {s : State} {e : OpError}
    (h : checkFrameOp op.paramsOk (accept (requestOf i) s) = raise e (accept (requestOf i) s)) :
    exec i s = .next (completed s (errorResult e false)) := by
  have hp : (raise e (accept (requestOf i) s)).phase ≠ .build := by simp
  rw [exec_frame hc, runFrameOp, h, if_neg hp, finish_raise_accept (frame_opc hc)]

/-- Settles O21: each premise leads to its branch of check_frame_op; operands that no frame is sent for fail the
operation's own check. -/
theorem frameChecksComeFirstAndInOrder : Obligations.FrameChecksComeFirstAndInOrder := by
  intro i s hi
  obtain ⟨op, hc⟩ := course_of_frameIssuing hi
  refine ⟨fun ha => ?_, fun ha hl => ?_, fun ha hl hno => ?_⟩ <;> refine exec_of_check hc ?_
  · exact if_pos ha
  · simp [checkFrameOp, ha, hl]
  · have hp : op.paramsOk = false := by
      rw [Bool.eq_false_iff]
      intro hp
      obtain ⟨cmd, f, hif⟩ := issues_of_course hc hp
      exact hno cmd f hif
    simp [checkFrameOp, ha, hl, hp]

/-! ### From TX on, for a frame in TXBUF -/

section
variable {q : Option Latch} {tb : Memory} {s : State} {cmd : WireCmd} {value : State → Word} {f r : Bytes}
  (hf : holds tb f s.txbuf) (hread : isCsrRead (inTx q tb s) = false)
include hf hread

theorem finish_inTx_refused (h : feedOk s.feed = false) :
    finish (transact cmd f.length value (inTx q tb s)) =
      completed (writeRefused s f tb) (errorResult .writeFail false) := by
  rw [finish_refused hread rfl h, inTx_txbuf, hf.1]
  rfl

theorem finish_inTx_failed {why : ReadFail} (h : feedOk s.feed = true)
    (hr : feedRead (respLen cmd) (afterOk s.feed) = .fail why) :
    finish (transact cmd f.length value (inTx q tb s)) =
      completed (exchanged s cmd f tb s.rxbuf) (errorResult (readError why) false) := by
  rw [finish_failed hread rfl h hr, inTx_txbuf, hf.1]
  rfl

variable (hrx : s.rxbuf.wf statusLen = true) (h : feedOk s.feed = true)
  (hr : feedRead (respLen cmd) (afterOk s.feed) = .ok r)
include hrx h hr

theorem finish_inTx_mismatch (hm : crcMatches r (respLen cmd) (reqSwap (inTx q tb s)) = false)
    (hs : reqStrict (inTx q tb s) = true) :
    finish (transact cmd f.length value (inTx q tb s)) =
      completed (exchanged s cmd f tb (memWriteBytes s.rxbuf 0 r)) (errorResult .crcMismatch false) := by
  rw [finish_mismatch (s := inTx q tb s) hrx hread rfl h hr hm hs, answered, inTx_txbuf, hf.1]
  rfl

theorem finish_inTx_ack (hne : cmd ≠ .readRegisters)
    (hm : crcMatches r (respLen cmd) (reqSwap (inTx q tb s)) = true ∨ reqStrict (inTx q tb s) = false) :
    finish (transact cmd f.length value (inTx q tb s)) =
      completed (exchanged s cmd f tb (memWriteBytes s.rxbuf 0 r))
        (if ackMalformed s.params cmd (reqAddr (inTx q tb s)) r then
          errorResult .malformedAck (!crcMatches r (respLen cmd) (reqSwap (inTx q tb s)))
        else okResult 0#32 [] (!crcMatches r (respLen cmd) (reqSwap (inTx q tb s)))) := by
  rw [finish_ack (s := inTx q tb s) hne hrx hread rfl h hr hm, answered, inTx_txbuf, hf.1]
  rfl

end

/-- w is the operation's value of the state with the decoded response written. -/
theorem finish_inTx_status {q : Option Latch} {tb : Memory} {s : State} {value : State → Word} {f r : Bytes}
    {w : Word} (hf : holds tb f s.txbuf) (hread : isCsrRead (inTx q tb s) = false) (hrx : s.rxbuf.wf statusLen = true)
    (h : feedOk s.feed = true) (hr : feedRead 23 (afterOk s.feed) = .ok r)
    (hm : crcMatches r 23 (reqSwap (inTx q tb s)) = true ∨ reqStrict (inTx q tb s) = false)
    (hv : ∀ p res, value (withDevice
      { exchanged s .readRegisters f tb (memWriteBytes s.rxbuf 0 r) with phase := p, req := q, res := res }
      (decodeStatus s.params r)) = w) :
    finish (transact .readRegisters f.length value (inTx q tb s)) =
      completed (withDevice (exchanged s .readRegisters f tb (memWriteBytes s.rxbuf 0 r)) (decodeStatus s.params r))
        (okResult w [] (!crcMatches r 23 (reqSwap (inTx q tb s)))) := by
  have hsent : answered (inTx q tb s) .readRegisters f.length r =
      { exchanged s .readRegisters f tb (memWriteBytes s.rxbuf 0 r) with
        phase := .tx, req := q, res := Result.blank } := by
    rw [answered, inTx_txbuf, hf.1]
    rfl
  have hval : ∀ p res, value { withDevice (answered (inTx q tb s) .readRegisters f.length r)
      (decodeStatus s.params r) with phase := p, res := res } = w := fun p res => by
    rw [hsent]
    exact hv p res
  rw [finish_status (s := inTx q tb s) hrx hread rfl h hr hm hval, hsent]
  rfl

/-! ### Admitted operations of the host -/

/-- TXBUF in TX holds the sealed frame: the layout written by BUILD, then the frame over it by SEAL (R104). -/
theorem holds_sealed {m : Memory} (hm : m.wf maxFrame = true) {f : Bytes} (hf : f.length ≤ maxFrame) (sw : Bool) :
    holds (memWriteBytes (memWriteBytes m 0 f) 0 (sealFrame f sw)) (sealFrame f sw) m := by
  have hlen := sealFrame_length f sw
  obtain ⟨hread, hrest⟩ := holds_memWriteBytes (memWriteBytes_wf hm 0 f (by omega)) (sealFrame f sw) (by omega)
  refine ⟨hread, fun a ha => ?_⟩
  rw [hrest a ha, memRead_memWriteBytes_other m 0 a f (by omega)]

/-- An admitted operation runs the phases from TX on, its sealed frame in TXBUF. -/
theorem exec_admitted {i : Instr} {cmd : WireCmd} {f : Byte → Bool → Bytes} {s : State} (hi : Issues i cmd f)
    (ha : Admits s) :
    ∃ op tb, courseOf i = some (.frame op) ∧ holds tb (f s.addr s.crcSwap) s.txbuf ∧
      exec i s = .next (finish (transact cmd (f s.addr s.crcSwap).length op.value
        (inTx (accept (requestOf i) s).req tb s))) := by
  obtain ⟨op, hc, rfl, hp, hframe⟩ := issues_course hi
  have hfits := (frame_sendable hc hp ha.addr).fits
  have hbuilt := memReadBytes_memWriteBytes ha.txbuf 0 (op.layout s.addr) (by omega)
  rw [← hframe]
  refine ⟨op, _, hc, holds_sealed ha.txbuf hfits s.crcSwap, ?_⟩
  have hcheck : checkFrameOp op.paramsOk (accept (requestOf i) s) = setPhase .build (accept (requestOf i) s) := by
    rw [hp]
    exact checkFrameOp_pass ha.addr ha.link
  rw [exec_frame hc, runFrameOp, hcheck, if_pos (setPhase_phase _ _), sealFrame_length]
  have hseal : sealTx (op.layout s.addr).length
      (buildTx (op.layout s.addr) (setPhase .build (accept (requestOf i) s))) =
      inTx (accept (requestOf i) s).req
        (memWriteBytes (memWriteBytes s.txbuf 0 (op.layout s.addr)) 0
          (sealFrame (op.layout s.addr) s.crcSwap)) s := by
    rw [sealTx, buildTx_txbuf, setPhase_txbuf, accept_txbuf, hbuilt]
    rfl
  exact congrArg (fun u => Host.Outcome.next (finish (transact op.cmd _ op.value u))) hseal

/-- No frame operation is CSR_READ. -/
theorem isCsrRead_inTx_accept {i : Instr} {op : FrameOp} (hc : courseOf i = some (.frame op)) (tb : Memory)
    (s : State) : isCsrRead (inTx (accept (requestOf i) s).req tb s) = false :=
  beq_eq_false_iff_ne.mpr (frame_opc hc)

/-- Settles O22. -/
theorem refusedWriteAborts : Obligations.RefusedWriteAborts := by
  intro i cmd f s hi ha hw
  obtain ⟨op, tb, hc, htb, hrun⟩ := exec_admitted hi ha
  exact ⟨tb, htb, by rw [hrun, finish_inTx_refused htb (isCsrRead_inTx_accept hc tb s) hw]⟩

/-- Settles O23. -/
theorem failedReadAborts : Obligations.FailedReadAborts := by
  intro i cmd f s why hi ha hw hr
  obtain ⟨op, tb, hc, htb, hrun⟩ := exec_admitted hi ha
  refine ⟨tb, htb, ?_⟩
  rw [hrun, finish_inTx_failed htb (isCsrRead_inTx_accept hc tb s) hw hr]
  cases why <;> rfl

theorem holds_response {cmd : WireCmd} {s : State} {r : Bytes} (hrx : s.rxbuf.wf statusLen = true)
    (hr : feedRead (respLen cmd) (afterOk s.feed) = .ok r) : holds (memWriteBytes s.rxbuf 0 r) r s.rxbuf :=
  holds_memWriteBytes hrx r (feedRead_ok hr ▸ respLen_le cmd)

/-- Settles O24. -/
theorem strictMismatchAborts : Obligations.StrictMismatchAborts := by
  intro i cmd f s r hi ha hw hr hm hs
  obtain ⟨op, tb, hc, htb, hrun⟩ := exec_admitted hi ha
  refine ⟨tb, _, htb, holds_response ha.rxbuf hr, ?_⟩
  rw [hrun, finish_inTx_mismatch htb (isCsrRead_inTx_accept hc tb s) ha.rxbuf hw hr hm hs]

/-- An acknowledgement that the checksum check lets through ends a write operation as the malformed check says. -/
theorem exec_ack {i : Instr} {cmd : WireCmd} {f : Byte → Bool → Bytes} {s : State} {r : Bytes} (hi : Issues i cmd f)
    (hne : cmd ≠ .readRegisters) (ha : Admits s) (hw : feedOk s.feed = true)
    (hr : feedRead (respLen cmd) (afterOk s.feed) = .ok r)
    (hm : crcMatches r (respLen cmd) s.crcSwap = true ∨ s.strict = false) :
    ∃ tb rb, holds tb (f s.addr s.crcSwap) s.txbuf ∧ holds rb r s.rxbuf ∧
      exec i s = .next (completed (exchanged s cmd (f s.addr s.crcSwap) tb rb)
        (if ackMalformed s.params cmd s.addr r then
          errorResult .malformedAck (!crcMatches r (respLen cmd) s.crcSwap)
        else okResult 0#32 [] (!crcMatches r (respLen cmd) s.crcSwap))) := by
  obtain ⟨op, tb, hc, htb, hrun⟩ := exec_admitted hi ha
  refine ⟨tb, _, htb, holds_response ha.rxbuf hr, ?_⟩
  rw [hrun, finish_inTx_ack htb (isCsrRead_inTx_accept hc tb s) ha.rxbuf hw hr hne hm]
  rfl

/-- Settles O25. -/
theorem writeOperationsComplete : Obligations.WriteOperationsComplete := by
  intro i cmd f s r hi hne ha hw hr hm hack
  simpa only [hack, Bool.false_eq_true, if_false] using exec_ack hi hne ha hw hr hm

/-- Settles O26. -/
theorem malformedAckAborts : Obligations.MalformedAckAborts := by
  intro i cmd f s r hi hne ha hw hr hm hack
  simpa only [hack, if_true] using exec_ack hi hne ha hw hr hm

/-- The value of a status-bank operation is its field of the device state (R119 to R123). -/
theorem returns_value {i : Instr} {op : FrameOp} {value : StatusFields → Word} (h : Returns i value)
    (hc : courseOf i = some (.frame op)) (u : State) (d : StatusFields) : op.value (withDevice u d) = value d := by
  cases h <;> cases hc <;> rfl

/-- Settles O27. -/
theorem statusOperationsComplete : Obligations.StatusOperationsComplete := by
  intro i f value s r hi hret ha hw hr hm
  obtain ⟨op, tb, hc, htb, hrun⟩ := exec_admitted hi ha
  refine ⟨tb, _, htb, holds_response (cmd := .readRegisters) ha.rxbuf hr, ?_⟩
  rw [hrun, finish_inTx_status htb (isCsrRead_inTx_accept hc tb s) ha.rxbuf hw hr hm
    fun p res => returns_value hret hc _ _]
  rfl

/-! ### Frames carried out by themselves -/

theorem frameOf_length_le {i : Instr} {cmd : WireCmd} (h : Carries i cmd) : (frameOf i).length ≤ maxFrame := by
  have hmax : maxFrame = 261 := rfl
  cases h with
  | readStatus | writeSingle => simp [frameOf, encode, be16, be32, hmax]
  | writeMultiple a start vals c h1 h2 =>
    simp only [frameOf, encode, be16, List.length_append, List.length_cons, List.length_nil, be32s_length]
    omega

/-- A wire command runs the phases from TX on, its frame in TXBUF, for the operation in REQ (log entry 9). -/
theorem exec_wire_inTx {i : Instr} {cmd : WireCmd} (hi : Carries i cmd) {s : State}
    (htx : s.txbuf.wf maxFrame = true) :
    ∃ tb, holds tb (frameOf i) s.txbuf ∧
      exec i s = .next (finish (transact cmd (frameOf i).length statusValue (inTx s.req tb s))) :=
  ⟨_, holds_memWriteBytes htx (frameOf i) (frameOf_length_le hi), exec_wire hi s⟩

/-- Settles O43. -/
theorem wireReadCompletes : Obligations.WireReadCompletes := by
  intro a c s r htx hrx hread hw hr hm
  obtain ⟨tb, htb, hrun⟩ := exec_wire_inTx (.readStatus a c) htx
  refine ⟨tb, _, _, htb, holds_response (cmd := .readRegisters) hrx hr, rfl, ?_⟩
  rw [hrun]
  exact congrArg _ (finish_inTx_status (q := s.req) htb hread hrx hw hr hm fun p res => rfl)

/-- Settles O44. -/
theorem wireWriteCompletes : Obligations.WireWriteCompletes := by
  intro i cmd s r hi hne htx hrx hread hw hr hm hack
  obtain ⟨tb, htb, hrun⟩ := exec_wire_inTx hi htx
  refine ⟨tb, _, htb, holds_response hrx hr, ?_⟩
  have hack' : ackMalformed s.params cmd (reqAddr (inTx s.req tb s)) r = false := hack
  rw [hrun, finish_inTx_ack (q := s.req) htb hread hrx hw hr hne hm, hack']
  rfl

end Sys2Proof.Machine
end
